-- ==== Sys2Proof/Word.lean ====
section
/-! DEFINITION. Word.lean: the words of the Kadbren 4620 and their plainest arithmetic (R1, R176). -/

namespace Sys2Proof

/-- One byte of a serial line or of a frame (R176). -/
abbrev Byte := BitVec 8

/-- The register of the frame check (R62). -/
abbrev Word16 := BitVec 16

/-- A 16-bit count that holds at 65,535 (R76, R172). -/
def sat16 (n : Nat) : Nat := min n 65535

end Sys2Proof
end

