-- ==== Sys2Proof/Syntax.lean ====
section
/-! DEFINITION. Syntax.lean: the rows of spec/opcode_table.json, one constructor each. The 4620 is a
block: a row is an event of the part (95_what_each_step_holds.md), with the operands the spec gives it. -/

namespace Sys2Proof

/-- One event of the part. The rows of host commands (SET_STATION to READ_EVENTS) stand for the whole
command handed to its owner with these parameter values, raw as packed (R165, R179; log 1). -/
inductive Instr where
  /-- POWER_ON (R163): the strap levels it samples (six for the id, one for the orientation) and the level of WDIR. -/
  | powerOn (strapId : BitVec 6) (strapAlong wdirHigh : Bool)
  /-- RESET_LINE_ASSERT (R154). -/
  | resetLineAssert
  /-- RESET_LINE_RELEASE (R163): the strap levels it samples. -/
  | resetLineRelease (strapId : BitVec 6) (strapAlong : Bool)
  /-- HOST_BYTE_ARRIVAL (R168): the byte on the command UART. -/
  | hostByteArrival (byte : Byte)
  /-- COMMAND_BYTE_TAKEN (R165): the byte is the oldest of the receive buffer. -/
  | commandByteTaken
  /-- PARAMETER_BYTE_TAKEN (R165): the byte is the oldest of the receive buffer. -/
  | parameterByteTaken
  /-- REPLY_PLACE (R169). -/
  | replyPlace
  /-- REPLY_SENT (R169). -/
  | replySent
  /-- UNKNOWN_COMMAND (R167). -/
  | unknownCommand
  /-- SET_STATION (R161). -/
  | setStation (id orientation : Nat)
  /-- SET_TUNING (R162). -/
  | setTuning (index value : Nat)
  /-- MAP_WINDOW (R8). -/
  | mapWindow (first last : Nat)
  /-- MAP_SEGMENT (R9): the eleven parameters in the order of section 1.3. -/
  | mapSegment (length cls kind nodeA nodeB c0 c1 c2 c3 crane bay : Nat)
  /-- MAP_SEAL (R12). -/
  | mapSeal
  /-- MAP_SEAL_WALK_END (R12). -/
  | mapSealWalkEnd
  /-- MAP_CLEAR (R16). -/
  | mapClear
  /-- TAG_WINDOW (R8). -/
  | tagWindow (first last : Nat)
  /-- TAG_WRITE (R9). -/
  | tagWrite (tagId segment offset : Nat)
  /-- WINDOW_WRITE (R9). -/
  | windowWrite (segment start stop ceiling : Nat)
  /-- CRANE_LIST (R6): the count and the eight id parameters. -/
  | craneList (count c0 c1 c2 c3 c4 c5 c6 c7 : Nat)
  /-- START (R157). -/
  | start
  /-- LEAVE (R159). -/
  | leave
  /-- RESTART (R163). -/
  | restart
  /-- SET_POSITION (R39). -/
  | setPosition (segment offset sign : Nat)
  /-- ROUTE_REPLACE (R45): ROUTE in mode 0; the count parameter is the number of ids. -/
  | routeReplace (firstSign : Nat) (ids : List Nat) (stopPresent stopOffset : Nat)
  /-- ROUTE_APPEND (R47): ROUTE in mode 1. -/
  | routeAppend (ids : List Nat) (stopPresent stopOffset : Nat)
  /-- ROUTE_CLEAR (R52). -/
  | routeClear
  /-- SET_LOAD (R140). -/
  | setLoad (load : Nat)
  /-- SET_PRIORITY (R97). -/
  | setPriority (prec : Nat)
  /-- BAY_CONTROL (R125). -/
  | bayControl (snoop crane o0 o1 o2 o3 : Nat)
  /-- STILL_CONTROL (R37). -/
  | stillControl (force detect : Nat)
  /-- CLEAR_PEER (R91). -/
  | clearPeer (station : Nat)
  /-- READ_STATUS (R171). -/
  | readStatus
  /-- READ_GUIDANCE (R147). -/
  | readGuidance
  /-- READ_POSITION (R171). -/
  | readPosition
  /-- READ_ROUTE (R57). -/
  | readRoute
  /-- READ_CLAIMS (R118). -/
  | readClaims
  /-- READ_PEER (R92). -/
  | readPeer (index : Nat)
  /-- READ_BAYS (R130). -/
  | readBays
  /-- READ_COUNTERS (R172): option 0. -/
  | readCounters
  /-- READ_COUNTERS_CLEAR (R172): option 1. -/
  | readCountersClear
  /-- READ_EVENTS (R173). -/
  | readEvents
  /-- WHEEL_PULSE (R18). -/
  | wheelPulse
  /-- RACE_END (R19). -/
  | raceEnd
  /-- DIRECTION_CHANGE (R22). -/
  | directionChange
  /-- TAG_READ (R28): the five bytes that follow the lead byte (R178). -/
  | tagRead (b1 b2 b3 b4 b5 : Byte)
  /-- READ_GAP_TIMEOUT (R153). -/
  | readGapTimeout
  /-- PERIOD_START (R151). -/
  | periodStart
  /-- WIDTH_REACHED (R151). -/
  | widthReached
  /-- MODEM_FRAME_ARRIVAL (R63): the whole frame. -/
  | modemFrameArrival (frame : List Byte)
  /-- START_OF_SEND (R59). -/
  | startOfSend
  /-- FRAME_PARSE (R65). -/
  | frameParse
  /-- CADENCE_EXPIRY (R71). -/
  | cadenceExpiry
  /-- PROMPT_GUARD_EXPIRY (R73). -/
  | promptGuardExpiry
  /-- COINCIDENCE_WINDOW_CLOSE (R72). -/
  | coincidenceWindowClose
  /-- QUIET_TIME_REACHED (R86): the peer entry's station id. -/
  | quietTimeReached (station : Nat)
  /-- PEER_LOST (R86): the peer entry's station id. -/
  | peerLost (station : Nat)
  /-- SATURATION_TIMER_EXPIRY (R90). -/
  | saturationTimerExpiry
  /-- CLASH_TIMER_EXPIRY (R104). -/
  | clashTimerExpiry
  /-- WAIT_EXPIRED (R113). -/
  | waitExpired
  /-- CRANE_SILENCE_EXPIRY (R124): the crane id. -/
  | craneSilenceExpiry (crane : Nat)
  /-- JOIN_LISTEN_EXPIRY (R158). -/
  | joinListenExpiry
  /-- READER_LEAD_BYTE (R178): one byte on the reader line, a lead byte or a later one. -/
  | readerLeadByte (byte : Byte)
  /-- DIRECTION_LEVEL_CHANGE (R153): WDIR changes level. -/
  | directionLevelChange
  deriving DecidableEq, Repr

end Sys2Proof
end

