-- ==== Sys2Proof/Decode.lean ====
section
/-! DEFINITION. Decode.lean: the command a table word spells. No row of spec/opcode_table.json gives bits
(every "fields" is empty and no row has "fixed"), so no word spells a command. The byte-level decoding of host
commands (R165, R179) and of frames (R177) is an effect of events and stands in Machine/. -/

namespace Sys2Proof

/-- The command that nbits table bits w spell: none, since no row of the table gives bits. -/
def decodeTableWord (_nbits _w : Nat) : Option Instr := none

end Sys2Proof
end

