-- ==== Sys2Proof/Config.lean ====
section
/-! DEFINITION. Config.lean: what the part fixes (capacities, fixed times, the tuning table of R162) and the
free values, opaque constants that nothing can evaluate. -/

namespace Sys2Proof.Config

/-- FREE VALUE (log 7, DESIGN CHOICE): whether the Guidance Unit takes its own report of an event before the
Claim Unit's hand-over of the same event, SET POSITION among them. R133 lets either be taken first. The argument
counts the uses. -/
opaque guidanceFirst : Nat → Bool

/-- FREE VALUE (log 8, DESIGN CHOICE): what a reply field of g bytes carries for a value that does not fit it.
R180 states no value. -/
opaque oversize : Nat → Nat → Nat

/-- One row of the tuning table of R162. -/
structure TuningRow where
  lo : Int
  hi : Int
  dflt : Int
  deriving DecidableEq, Repr

/-- Indices 0 to 11 of R162. -/
def tuningRowsA : List TuningRow :=
  [⟨1, 4095, 157⟩, ⟨100, 10000, 1000⟩, ⟨1, 255, 16⟩, ⟨300, 800, 500⟩, ⟨0, 31, 5⟩, ⟨10, 500, 120⟩,
   ⟨5, 100, 20⟩, ⟨2000, 60000, 15000⟩, ⟨0, 15, 1⟩, ⟨1, 15, 3⟩, ⟨5, 100, 20⟩, ⟨0, 300, 100⟩]

/-- Indices 12 to 22 of R162: intervals A, B, C and the pattern A B C A C B A B. -/
def tuningRowsB : List TuningRow :=
  [⟨100, 1000, 200⟩, ⟨100, 1000, 250⟩, ⟨100, 1000, 300⟩, ⟨0, 2, 0⟩, ⟨0, 2, 1⟩, ⟨0, 2, 2⟩, ⟨0, 2, 0⟩,
   ⟨0, 2, 2⟩, ⟨0, 2, 1⟩, ⟨0, 2, 0⟩, ⟨0, 2, 1⟩]

/-- Indices 23 to 31 of R162. -/
def tuningRowsC : List TuningRow :=
  [⟨50, 500, 100⟩, ⟨300, 3000, 800⟩, ⟨2000, 60000, 10000⟩, ⟨2000, 30000, 8000⟩, ⟨2, 7, 3⟩, ⟨5, 120, 30⟩,
   ⟨500, 10000, 2000⟩, ⟨100, 1000, 600⟩, ⟨50, 300, 120⟩]

/-- Indices 32 to 39 of R162, the class ceilings; their upper end is Vmax, at most 1,000. -/
def tuningRowsD : List TuningRow :=
  [⟨0, 1000, 600⟩, ⟨0, 1000, 500⟩, ⟨0, 1000, 400⟩, ⟨0, 1000, 300⟩, ⟨0, 1000, 200⟩, ⟨0, 1000, 150⟩,
   ⟨0, 1000, 100⟩, ⟨0, 1000, 50⟩]

/-- Indices 40 to 46 of R162. -/
def tuningRowsE : List TuningRow :=
  [⟨0, 500, 150⟩, ⟨64, 128, 128⟩, ⟨64, 128, 96⟩, ⟨-64, 63, 0⟩, ⟨10, 100, 50⟩, ⟨1000, 10000, 3000⟩,
   ⟨0, 8191, 8191⟩]

/-- The tuning table of R162, index by index. -/
def tuningTable : List TuningRow := tuningRowsA ++ tuningRowsB ++ tuningRowsC ++ tuningRowsD ++ tuningRowsE

/-- The values power-on gives (R162, R163). -/
def tuningDefaults : List Int := tuningTable.map TuningRow.dflt

/-- R78. -/
def peerCapacity : Nat := 48
/-- R64. -/
def receiveQueueCapacity : Nat := 4
/-- R168. -/
def receiveBufferCapacity : Nat := 64
/-- R169. -/
def replyBufferCapacity : Nat := 512
/-- R41. -/
def routeCapacity : Nat := 32
/-- R108. -/
def doubleHoldCapacity : Nat := 16
/-- R95. -/
def heldCapacity : Nat := 8
/-- R95. -/
def wantedCapacity : Nat := 4
/-- R95. -/
def claimCapacity : Nat := 12
/-- The id that means "none" in every field that carries a segment id (00, Identifiers). -/
def noSegment : Nat := 1023
/-- The ceiling line's period in microseconds (R151). -/
def periodLength : Nat := 10000
/-- The direction input's stability time in microseconds (R153). -/
def directionStable : Nat := 1000
/-- The longest gap between the bytes of a read, in microseconds (R153). -/
def readerGapLimit : Nat := 5000
/-- The near-coincidence window in microseconds (R72). -/
def coincidenceWindow : Nat := 10000

end Sys2Proof.Config
end

