-- ==== Sys2Proof/Machine/State.lean ====
section
/-! DEFINITION. State.lean: all the state of the Kadbren 4620, block by block, as plain data, and the part
right after reset. Times are clock times in microseconds (log 2); every other quantity has the manual's unit. -/

namespace Sys2Proof.Machine

/-- The block has no fault: every event of the table leaves a next state, so nothing raises one (safe). -/
inductive Fault : Type
  deriving DecidableEq, Repr

/-- A row without a meaning. -/
inductive Refusal : Type where
  /-- Raised by exec's arm of a row not modelled yet (no arm does): safe, the model stops. -/
  | notModelled (mnemonic : String)
  deriving DecidableEq, Repr

/-! ### Names -/

/-- R156. -/
inductive StationState where
  | config | joining | run | leaving | offLine
  deriving DecidableEq, Repr

/-- R23. -/
inductive Quality where
  | none | doubtful | good
  deriving DecidableEq, Repr

/-- R23, R37. -/
inductive Motion where
  | moving | still
  deriving DecidableEq, Repr

/-- The sign of a route entry or of a travel sense relative to a segment (R23, R41). -/
inductive Sign where
  | plus | minus
  deriving DecidableEq, Repr

/-- The direction line (R21). -/
inductive Direction where
  | forward | reverse
  deriving DecidableEq, Repr

/-- R21, R161. -/
inductive Orientation where
  | along | against
  deriving DecidableEq, Repr

/-- The travel sense (R21) and the present direction (R132): along the route (AHEAD) or against it (BACK). -/
inductive Sense where
  | ahead | back
  deriving DecidableEq, Repr

/-- R2: the kind; a BAY carries its crane id and bay index. -/
inductive Kind where
  | lane | cross | park
  | bay (crane index : Nat)
  deriving DecidableEq, Repr

/-- R95. -/
inductive ClaimState where
  | held | wanted
  deriving DecidableEq, Repr

/-- R96: ROUTE, with the index of the route entry it belongs to, or DETACHED. -/
inductive Tie where
  | route (index : Nat)
  | detached
  deriving DecidableEq, Repr

/-- R79. -/
inductive PeerStatus where
  | fresh | quiet | lost
  deriving DecidableEq, Repr

/-- R120: OPEN, HOIST, SHUT, UNKNOWN. -/
inductive BayState where
  | opened | hoist | shut | unknown
  deriving DecidableEq, Repr

/-- R120. -/
inductive BaySource where
  | snoop | overridden
  deriving DecidableEq, Repr

/-- The limiting cause (R132). -/
inductive Cause where
  | classCeiling | window | grantEnd | routeEnd | destination | bay | vmax | load | quality | hold
  deriving DecidableEq, Repr

/-- R132. -/
inductive Load where
  | empty | laden
  deriving DecidableEq, Repr

/-- R164. -/
inductive ResetCause where
  | power | line | command
  deriving DecidableEq, Repr

/-- The event flags in the order of R173. -/
inductive Event where
  | arrived | waitExpired | faceOff | doubleHold | occupyConflict | qualityDrop | overrun
  | peerLost | saturated | idClash | routeCut | bayHold | permitDrop
  deriving DecidableEq, Repr

/-- The host commands of R179. -/
inductive Cmd where
  | setStation | setTuning | mapWindow | mapSegment | mapSeal | mapClear | tagWindow | tagWrite | windowWrite
  | craneList | start | leave | restart | setPosition | route | routeClear | setLoad | setPriority | bayControl
  | stillControl | clearPeer | readStatus | readGuidance | readPosition | readRoute | readClaims | readPeer
  | readBays | readCounters | readEvents
  deriving DecidableEq, Repr

/-- The reply statuses in the order of their codes (R180). -/
inductive Status where
  | done | doneClamped | doneCut | partialDone | refusedState | refusedValue | notHere | notParked | unknownCommand
  deriving DecidableEq, Repr

/-! ### Pins and reader line (R153, R154, R178) -/

/-- An open read on the reader line (R178). -/
structure OpenRead where
  /-- The bytes taken after the lead byte. -/
  bytes : List Byte
  /-- When the 5 ms gap to the next byte runs out (R153). -/
  gapEnd : Nat
  deriving DecidableEq, Repr

structure Pins where
  /-- RESETN is low: the part is held in reset (R154). -/
  resetHeld : Bool
  /-- A power-on met the part held in reset; its reset is taken at the release (R163; log 19). -/
  powerOnHeld : Bool
  /-- The level of WDIR (R153). -/
  wdirHigh : Bool
  /-- The reader line's open read; with none the line hunts for a lead byte (R178). -/
  reader : Option OpenRead
  deriving DecidableEq, Repr

/-! ### Map Store (chapter 1) -/

/-- A segment record (R2). The conflict list holds its four slots, 1023 for none. -/
structure Segment where
  length : Nat
  cls : Nat
  kind : Kind
  nodeA : Nat
  nodeB : Nat
  conflicts : List Nat
  deriving DecidableEq, Repr

/-- R5. -/
structure SlowWindow where
  segment : Nat
  start : Nat
  stop : Nat
  ceiling : Nat
  deriving DecidableEq, Repr

/-- R7. -/
structure Tag where
  tagId : Nat
  segment : Nat
  offset : Nat
  deriving DecidableEq, Repr

/-- A write window with its address counter and disregard count (R8, R9). -/
structure Cursor where
  first : Nat
  last : Nat
  counter : Nat
  disregard : Nat
  deriving DecidableEq, Repr

structure MapStore where
  segments : List (Nat × Segment)
  windows : List (Nat × SlowWindow)
  cranes : List Nat
  tags : List (Nat × Tag)
  isSealed : Bool
  segCursor : Cursor
  tagCursor : Cursor
  winCursor : Cursor
  /-- A MAP SEAL walk is in progress (R12). -/
  sealing : Bool
  deriving DecidableEq, Repr

/-! ### Odometry Counter and Position Unit (chapter 2) -/

structure Odometry where
  /-- When the race began; the race tick count is read off it (R18). -/
  raceStart : Nat
  racePulses : Nat
  raceTickLimit : Nat
  racePulseLimit : Nat
  uncredited : Nat
  residue : Nat
  speed : Nat
  direction : Direction
  /-- When a changed WDIR level will have stood for its stability time (R153). -/
  directionDue : Option Nat
  deriving DecidableEq, Repr

structure Position where
  index : Option Nat
  offset : Nat
  quality : Quality
  motion : Motion
  rejects : Nat
  lastError : Option Int
  sinceFix : Nat
  stillCount : Nat
  force : Bool
  detect : Bool
  formerOffset : Nat
  formerSign : Sign
  accepted : Nat
  cored : Nat
  rejected : Nat
  unknownTags : Nat
  deriving DecidableEq, Repr

/-! ### Route Queue (chapter 3) -/

structure RouteEntry where
  seg : Nat
  sign : Sign
  deriving DecidableEq, Repr

structure RouteQueue where
  entries : List RouteEntry
  stop : Option Nat
  /-- The arrival flag: ARMED is true (R41). -/
  armed : Bool
  deriving DecidableEq, Repr

/-! ### Link Port and Notice Scheduler (chapter 4) -/

/-- The content of a POSITION notice (R66, R177). -/
structure PositionNotice where
  id : Nat
  sequence : Nat
  fresh : Bool
  joining : Bool
  still : Bool
  laden : Bool
  prec : Nat
  segment : Nat
  offset : Nat
  sign : Sign
  speed : Nat
  held : List Nat
  wanted : List Nat
  deriving DecidableEq, Repr

/-- A notice of the yard link (R66, R67). -/
inductive Notice where
  | position (p : PositionNotice)
  | leave (id sequence : Nat)
  | crane (id : Nat) (bays : List BayState)
  deriving DecidableEq, Repr

/-- A built notice, framed and checked (R59, R62). -/
structure Built where
  notice : Notice
  frame : List Byte
  deriving DecidableEq, Repr

structure LinkPort where
  slot : Option Built
  queue : List (List Byte)
  framesIn : Nat
  badCheck : Nat
  dropped : Nat
  taken : Nat
  replaced : Nat
  stale : Nat
  deriving DecidableEq, Repr

/-- An open near-coincidence window (R72). -/
structure NearWindow where
  closes : Nat
  coincident : Bool
  deriving DecidableEq, Repr

structure Scheduler where
  slotIndex : Nat
  /-- RUNNING with the run-out of the interval, or STOPPED (R70). -/
  cadence : Option Nat
  sequence : Nat
  freshStart : Nat
  nearCount : Nat
  window : Option NearWindow
  /-- The prompt guard timer's run-out; none when it has run out (R73). -/
  guard : Option Nat
  pendingNotice : Bool
  leaveCount : Nat
  deriving DecidableEq, Repr

/-! ### Peer View (chapter 5) -/

structure Peer where
  id : Nat
  status : PeerStatus
  sequence : Nat
  /-- When the time since last heard was last set to 0 (R79). -/
  heardAt : Nat
  missed : Nat
  still : Bool
  laden : Bool
  joining : Bool
  prec : Nat
  segment : Nat
  offset : Nat
  sign : Sign
  speed : Nat
  held : List Nat
  wanted : List Nat
  deriving DecidableEq, Repr

structure PeerView where
  entries : List Peer
  /-- SATURATED with the saturation timer's run-out, or CLEAR (R78, R89). -/
  saturation : Option Nat
  deriving DecidableEq, Repr

/-! ### Claim Unit (chapter 6) -/

structure Claim where
  seg : Nat
  state : ClaimState
  tie : Tie
  spanStart : Int
  advertised : Nat
  waitStart : Option Nat
  deriving DecidableEq, Repr

structure FaceOff where
  peer : Nat
  /-- The yield indication: YIELD is true, STAND is false (R114). -/
  yields : Bool
  deriving DecidableEq, Repr

structure ClaimUnit where
  list : List Claim
  prec : Nat
  satSuspension : Bool
  /-- ON with the clash timer's run-out, or OFF (R104). -/
  clash : Option Nat
  waitReported : Bool
  faceOff : Option FaceOff
  /-- Pairs of a peer station id and an own segment id (R108). -/
  doubles : List (Nat × Nat)
  lastHeld : List Nat
  lastWanted : List Nat
  deriving DecidableEq, Repr

/-! ### Bay Table (chapter 7) -/

structure Bay where
  state : BayState
  source : BaySource
  /-- The override: OPEN is true, SHUT is false (R120). -/
  overrideOpen : Bool
  segment : Nat
  deriving DecidableEq, Repr

/-- A listed crane with its four entries in bay order (R120). -/
structure Crane where
  id : Nat
  /-- When it was last heard; none shows 65,535 (R124). -/
  heardAt : Option Nat
  /-- The expiry of the present run of silence has been taken (R124). -/
  silent : Bool
  bays : List Bay
  deriving DecidableEq, Repr

structure BayTable where
  cranes : List Crane
  /-- The snoop switch: ON is true. -/
  snoop : Bool
  notices : Nat
  unlisted : Nat
  deriving DecidableEq, Repr

/-! ### Guidance Unit and Line Driver (chapters 8 and 9) -/

structure Guidance where
  direction : Sense
  ptl : Nat
  rearward : Nat
  permit : Bool
  ceiling : Nat
  cause : Cause
  code : Nat
  deriving DecidableEq, Repr

structure LineDriver where
  permit : Bool
  code : Nat
  pendingCode : Nat
  /-- When the present period began; the period phase is read off it (R149). -/
  periodStart : Nat
  /-- The level of the ceiling line (R151). -/
  high : Bool
  deriving DecidableEq, Repr

/-! ### Command Port (chapter 11) -/

structure OpenCommand where
  cmd : Cmd
  /-- The parameters completed so far. -/
  values : List Nat
  /-- The parameter being assembled and the number of its bytes taken. -/
  acc : Nat
  got : Nat
  deriving DecidableEq, Repr

structure Reply where
  status : Status
  data : List Byte
  deriving DecidableEq, Repr

structure CommandPort where
  rx : List Byte
  openCmd : Option OpenCommand
  /-- Replies handed back and not yet placed (R165, R169). -/
  waiting : List Reply
  /-- The reply buffer: whole replies, oldest first (R169). -/
  placed : List (List Byte)
  overrun : Bool
  stray : Bool
  flags : BitVec 13
  faceOffPeer : Option Nat
  /-- RESTART has been handed over and its reset is not yet taken (R163). -/
  restarting : Bool
  deriving DecidableEq, Repr

/-! ### Station Control (chapter 10) -/

structure StationControl where
  state : StationState
  id : Nat
  orientation : Orientation
  /-- The tuning values by the index of R162. -/
  tuning : List Int
  joinTimer : Option Nat
  cause : ResetCause
  resetCount : Nat
  deriving DecidableEq, Repr

/-! ### The whole part -/

/-- The state of the part. clock and choices are the model's own (log 2, 7); pending is the queue of the
commands that wait. -/
structure State where
  clock : Nat
  choices : Nat
  pins : Pins
  map : MapStore
  odo : Odometry
  pos : Position
  route : RouteQueue
  link : LinkPort
  sched : Scheduler
  peers : PeerView
  claim : ClaimUnit
  bays : BayTable
  guide : Guidance
  load : Load
  line : LineDriver
  port : CommandPort
  ctl : StationControl
  pending : List Instr
  deriving DecidableEq, Repr

/-! ### Values after reset -/

/-- R15. -/
def Cursor.atFirst (last : Nat) : Cursor := { first := 0, last := last, counter := 0, disregard := 0 }

/-- Power-on column of R15. -/
def MapStore.powerOn : MapStore :=
  { segments := [], windows := [], cranes := [], tags := [], isSealed := false, segCursor := .atFirst 1022,
    tagCursor := .atFirst 511, winCursor := .atFirst 15, sealing := false }

/-- R40: the race starts afresh, with the limits in force. -/
def Odometry.atReset (tickLimit pulseLimit : Nat) (d : Direction) : Odometry :=
  { raceStart := 0, racePulses := 0, raceTickLimit := tickLimit, racePulseLimit := pulseLimit, uncredited := 0,
    residue := 0, speed := 0, direction := d, directionDue := none }

/-- R40. -/
def Position.atReset : Position :=
  { index := none, offset := 0, quality := .none, motion := .moving, rejects := 0, lastError := none, sinceFix := 0,
    stillCount := 0, force := false, detect := true, formerOffset := 0, formerSign := .plus, accepted := 0,
    cored := 0, rejected := 0, unknownTags := 0 }

/-- R58. -/
def RouteQueue.atReset : RouteQueue := { entries := [], stop := none, armed := false }

/-- R77. -/
def LinkPort.atReset : LinkPort :=
  { slot := none, queue := [], framesIn := 0, badCheck := 0, dropped := 0, taken := 0, replaced := 0, stale := 0 }

/-- R77. -/
def Scheduler.atReset : Scheduler :=
  { slotIndex := 0, cadence := none, sequence := 0, freshStart := 0, nearCount := 0, window := none, guard := none,
    pendingNotice := false, leaveCount := 0 }

/-- R94. -/
def PeerView.atReset : PeerView := { entries := [], saturation := none }

/-- R119. -/
def ClaimUnit.atReset : ClaimUnit :=
  { list := [], prec := 2, satSuspension := false, clash := none, waitReported := false, faceOff := none,
    doubles := [], lastHeld := [], lastWanted := [] }

/-- R131 with no crane listed. -/
def BayTable.atReset : BayTable := { cranes := [], snoop := true, notices := 0, unlisted := 0 }

/-- R148. -/
def Guidance.atReset (d : Sense) : Guidance :=
  { direction := d, ptl := 0, rearward := 0, permit := false, ceiling := 0, cause := .hold, code := 0 }

/-- R155. -/
def LineDriver.atReset : LineDriver :=
  { permit := false, code := 0, pendingCode := 0, periodStart := 0, high := false }

/-- R175. -/
def CommandPort.atReset : CommandPort :=
  { rx := [], openCmd := none, waiting := [], placed := [], overrun := false, stray := false, flags := 0,
    faceOffPeer := none, restarting := false }

/-- The travel sense of the direction line and the orientation (R21). -/
def senseOf : Direction → Orientation → Sense
  | .forward, .along => .ahead
  | .forward, .against => .back
  | .reverse, .along => .back
  | .reverse, .against => .ahead

/-- The part right after power-on (R163) with every strap and WDIR low (log 6, DESIGN CHOICE, unsafe: the
straps then give id 0 and AGAINST, the direction is REVERSE). -/
def State.reset : State :=
  { clock := 0, choices := 0,
    pins := { resetHeld := false, powerOnHeld := false, wdirHigh := false, reader := none },
    map := .powerOn, odo := .atReset 1000 16 .reverse, pos := .atReset, route := .atReset, link := .atReset,
    sched := .atReset, peers := .atReset, claim := .atReset, bays := .atReset,
    guide := .atReset (senseOf .reverse .against), load := .empty, line := .atReset, port := .atReset,
    ctl := { state := .config, id := 0, orientation := .against, tuning := Config.tuningDefaults, joinTimer := none,
             cause := .power, resetCount := 0 },
    pending := [] }

end Sys2Proof.Machine
end

