-- ==== Sys2Proof/Machine/Ops.lean ====
section
/-! DEFINITION. Ops.lean: the named operations the events share: slot tables, the lookups of the Map Store,
tuning values, time, and the geometry of the route (R23, R96). The block has no exception entry. -/

namespace Sys2Proof.Machine

/-! ### Slot tables (R2, R5, R7): (slot, record) pairs, slots strictly rising -/

/-- The record of a slot. -/
def tableGet {α : Type} (k : Nat) : List (Nat × α) → Option α
  | [] => none
  | (j, v) :: rest => if j = k then some v else tableGet k rest

/-- Write a slot's record. -/
def tablePut {α : Type} (k : Nat) (v : α) : List (Nat × α) → List (Nat × α)
  | [] => [(k, v)]
  | (j, w) :: rest => if k < j then (k, v) :: (j, w) :: rest else if j = k then (k, v) :: rest else (j, w) :: tablePut k v rest

/-- Empty a slot. -/
def tableDrop {α : Type} (k : Nat) (t : List (Nat × α)) : List (Nat × α) := t.filter (fun p => p.1 != k)

/-- The canonical form: slots strictly rising from lo. -/
def tableFrom {α : Type} (lo : Nat) : List (Nat × α) → Bool
  | [] => true
  | (j, _) :: rest => decide (lo ≤ j) && tableFrom (j + 1) rest

/-- The canonical form of a slot table. -/
def tableWf {α : Type} (t : List (Nat × α)) : Bool := tableFrom 0 t

/-! ### Lookups of the Map Store (chapter 1) -/

/-- A segment record by id; the id 1023 always answers "absent" (R2). -/
def MapStore.segment (m : MapStore) (id : Nat) : Option Segment := if id < Config.noSegment then tableGet id m.segments else none

/-- Whether a segment id names a present segment. -/
def MapStore.present (m : MapStore) (id : Nat) : Bool := (m.segment id).isSome

/-- The answers of the adjacency lookup (R3). -/
inductive Adjacency where
  | none | nodeA | nodeB | both
  deriving DecidableEq, Repr

/-- The nodes two segments share: the answer names nodes of the second (R3). -/
def MapStore.adjacency (m : MapStore) (a b : Nat) : Adjacency :=
  if a = b then .none
  else match m.segment a, m.segment b with
    | some ga, some gb =>
      let onA := gb.nodeA == ga.nodeA || gb.nodeA == ga.nodeB
      let onB := gb.nodeB == ga.nodeA || gb.nodeB == ga.nodeB
      if onA && onB then .both else if onA then .nodeA else if onB then .nodeB else .none
    | _, _ => .none

/-- Whether segments w and v, both present, are in conflict: either list names the other (R4). -/
def MapStore.inConflict (m : MapStore) (w v : Nat) : Bool :=
  match m.segment w, m.segment v with
  | some gw, some gv => gw.conflicts.contains v || gv.conflicts.contains w
  | _, _ => false

/-- The conflict set of w: w itself and every present segment in conflict with it (R4). -/
def MapStore.conflictSet (m : MapStore) (w : Nat) : List Nat :=
  w :: ((m.segments.map Prod.fst).filter (fun v => v != w && m.inConflict w v))

/-- Whether a list of ids names a segment of w's conflict set. -/
def MapStore.conflictHit (m : MapStore) (ids : List Nat) (w : Nat) : Bool := (m.conflictSet w).any ids.contains

/-- The slow windows on a segment, in index order (R5). -/
def MapStore.windowsOn (m : MapStore) (seg : Nat) : List SlowWindow := (m.windows.map Prod.snd).filter (·.segment == seg)

/-- The tag lookup: the entry of the slot that holds the tag id, or unknown (R7). -/
def MapStore.tag (m : MapStore) (tagId : Nat) : Option Tag := (m.tags.map Prod.snd).find? (·.tagId == tagId)

/-- A BAY segment by crane id and bay index, or 1023; the lowest id where an unsealed map repeats one
(R120; log 26). -/
def MapStore.baySegment (m : MapStore) (crane bay : Nat) : Nat :=
  match m.segments.find? (fun p => p.2.kind == Kind.bay crane bay) with
  | some p => p.1
  | none => Config.noSegment

/-- The length of a segment; 0 for an absent one, which no route or claim of a sealed map names. -/
def MapStore.lengthOf (m : MapStore) (id : Nat) : Nat :=
  match m.segment id with
  | some g => g.length
  | none => 0

/-! ### Tuning values (R162) -/

/-- The tuning value at an index. -/
def State.tuningInt (s : State) (i : Nat) : Int := s.ctl.tuning.getD i 0

/-- The tuning value at an index that is never negative. -/
def State.tuning (s : State) (i : Nat) : Nat := (s.tuningInt i).toNat

def State.pulseLength (s : State) : Nat := s.tuning 0
def State.halfLength (s : State) : Nat := s.tuning 3
def State.coring (s : State) : Nat := s.tuning 4
def State.jumpLimit (s : State) : Nat := s.tuning 5
def State.confirmTolerance (s : State) : Nat := s.tuning 6
def State.fixGap (s : State) : Nat := s.tuning 7
def State.stillThreshold (s : State) : Nat := s.tuning 8
def State.stillLimit (s : State) : Nat := s.tuning 9
def State.arriveTolerance (s : State) : Nat := s.tuning 10
def State.releaseMargin (s : State) : Nat := s.tuning 11
def State.promptGuard (s : State) : Nat := s.tuning 23
def State.quietTime (s : State) : Nat := s.tuning 24
def State.lostTime (s : State) : Nat := s.tuning 25
def State.claimReach (s : State) : Nat := s.tuning 26
def State.maturing (s : State) : Nat := s.tuning 27
/-- In whole seconds (06, tuning table). -/
def State.waitLimit (s : State) : Nat := s.tuning 28
def State.craneSilence (s : State) : Nat := s.tuning 29
def State.vmax (s : State) : Nat := s.tuning 30
def State.deceleration (s : State) : Nat := s.tuning 31
def State.classCeiling (s : State) (c : Nat) : Nat := s.tuning (32 + c)
def State.standoff (s : State) : Nat := s.tuning 40
def State.creep (s : State) : Nat := s.tuning 44
def State.joinListen (s : State) : Nat := s.tuning 45

/-! ### Time (log 2, 3) -/

/-- A timer's run-out, ms milliseconds from now. -/
def State.after (s : State) (ms : Nat) : Nat := s.clock + 1000 * ms

/-- A timed event is taken at its due time or later: time has reached it (log 3). -/
def State.reach (s : State) (due : Nat) : State := { s with clock := max s.clock due }

/-- Whole milliseconds since a time. -/
def State.since (s : State) (t : Nat) : Nat := (s.clock - t) / 1000

/-- Whole milliseconds a running timer still has, counted down from its full length (log 27). -/
def State.left (s : State) (due : Nat) : Nat := (due - s.clock + 999) / 1000

/-- The race tick count: reference ticks of 100 us since the race began, up to its limit (R18; log 15). -/
def State.raceTicks (s : State) : Nat := min s.odo.raceTickLimit (s.clock / 100 - s.odo.raceStart / 100)

/-- When the race tick count reaches its limit. -/
def Odometry.ticksDue (o : Odometry) : Nat := (o.raceStart / 100 + o.raceTickLimit) * 100

/-- A peer's time since last heard (R79). -/
def State.peerTime (s : State) (p : Peer) : Nat := sat16 (s.since p.heardAt)

/-- A crane's time since last heard (R120, R124). -/
def State.craneTime (s : State) (c : Crane) : Nat :=
  match c.heardAt with
  | none => 65535
  | some t => sat16 (s.since t)

/-- The period phase (R149). -/
def State.phase (s : State) : Nat := s.clock - s.line.periodStart

/-! ### Places along the route (R23, R96) -/

/-- A route entry placed by its route distances. -/
structure Span where
  index : Nat
  seg : Nat
  sign : Sign
  start : Int
  stop : Int
  deriving DecidableEq, Repr

/-- The route entries from an index and a route distance on (R23). -/
def spansFrom (m : MapStore) : Nat → Int → List RouteEntry → List Span
  | _, _, [] => []
  | i, d, e :: rest =>
    { index := i, seg := e.seg, sign := e.sign, start := d, stop := d + m.lengthOf e.seg } ::
      spansFrom m (i + 1) (d + m.lengthOf e.seg) rest

/-- Every held route entry, the rearmost entry's entry boundary at route distance 0 (R23). -/
def State.spans (s : State) : List Span := spansFrom s.map 0 0 s.route.entries

/-- The route's total length (R23). -/
def State.routeLength (s : State) : Int := (s.route.entries.map (fun e => (s.map.lengthOf e.seg : Int))).sum

/-- The route entry under the centre, while there is a position (R23). -/
def State.currentSpan (s : State) : Option Span :=
  match s.pos.quality, s.pos.index with
  | .none, _ => none
  | _, none => none
  | _, some i => s.spans[i]?

/-- The route distance of the centre (R23). -/
def State.centre (s : State) : Option Int := s.currentSpan.map (fun p => p.start + s.pos.offset)

/-- The body by its two ends in route direction (R96). -/
structure Body where
  front : Int
  rear : Int
  deriving DecidableEq, Repr

/-- R96: a body half-length either side of the centre. -/
def State.body (s : State) : Option Body :=
  s.centre.map (fun c => { front := c + s.halfLength, rear := c - s.halfLength })

/-- R96: the body lies on the stretch. -/
def Body.on (b : Body) (start stop : Int) : Bool := decide (start < b.front) && decide (stop > b.rear)

/-- R96: the stretch lies wholly ahead of the body. -/
def Body.sees (b : Body) (start : Int) : Bool := decide (start ≥ b.front)

/-- R96: the stretch lies wholly behind the body. -/
def Body.passed (b : Body) (stop : Int) : Bool := decide (stop ≤ b.rear)

/-- A claim entry's span end (R96). -/
def State.claimStop (s : State) (e : Claim) : Int := e.spanStart + s.map.lengthOf e.seg

/-- The travel sense (R21). -/
def State.sense (s : State) : Sense := senseOf s.odo.direction s.ctl.orientation

/-- The segment under the centre, or 1023 (R66, R171). -/
def State.segmentHere (s : State) : Nat :=
  match s.currentSpan with
  | some p => p.seg
  | none => Config.noSegment

/-- The centre's offset in "+" direction (R23); 0 without a position (R66). -/
def State.plusOffset (s : State) : Nat :=
  match s.currentSpan with
  | none => 0
  | some p => match p.sign with
    | .plus => s.pos.offset
    | .minus => s.map.lengthOf p.seg - s.pos.offset

/-- The travel sign relative to the segment (R23); "+" without a position, in a notice (R66) and in READ POSITION alike
(log 35, DESIGN CHOICE). -/
def State.travelSign (s : State) : Sign :=
  match s.currentSpan with
  | none => .plus
  | some p => match s.sense, p.sign with
    | .ahead, sg => sg
    | .back, .plus => .minus
    | .back, .minus => .plus

/-- JOINING or RUN: the states in which claims are worked (R116). -/
def State.working (s : State) : Bool :=
  match s.ctl.state with
  | .joining => true
  | .run => true
  | _ => false

/-- Whether there is a position: quality is DOUBTFUL or GOOD. -/
def State.placed (s : State) : Bool := s.pos.quality != .none

end Sys2Proof.Machine
end

