-- ==== Sys2Proof/Machine/Flags.lean ====
section
/-! DEFINITION. Flags.lean: the event flags and the attention line (R173, R174). -/

namespace Sys2Proof.Machine

/-- The bit of a flag (R173). -/
def Event.bit : Event → Nat
  | .arrived => 0
  | .waitExpired => 1
  | .faceOff => 2
  | .doubleHold => 3
  | .occupyConflict => 4
  | .qualityDrop => 5
  | .overrun => 6
  | .peerLost => 7
  | .saturated => 8
  | .idClash => 9
  | .routeCut => 10
  | .bayHold => 11
  | .permitDrop => 12

/-- Raising an event sets its flag (R173). -/
def State.raise (e : Event) (s : State) : State :=
  { s with port := { s.port with flags := s.port.flags ||| (1#13 <<< e.bit) } }

/-- Raise an event when a condition holds. -/
def State.raiseIf (c : Bool) (e : Event) (s : State) : State := if c then s.raise e else s

/-- Whether a flag is set. -/
def State.flag (s : State) (e : Event) : Bool := s.port.flags.getLsbD e.bit

/-- Raising FACE_OFF keeps the peer's station id with the flag (R114, R173). -/
def State.raiseFaceOff (peer : Nat) (s : State) : State :=
  let s' := s.raise .faceOff
  { s' with port := { s'.port with faceOffPeer := some peer } }

/-- The event mask, tuning value 46 (R174). -/
def State.eventMask (s : State) : BitVec 13 := BitVec.ofNat 13 (s.tuning 46)

/-- The attention line is low while an enabled flag is set, and high while the reset input is held low (R174). -/
def State.attentionLow (s : State) : Bool := !s.pins.resetHeld && (s.port.flags &&& s.eventMask) != 0#13

end Sys2Proof.Machine
end

