-- ==== Sys2Proof/Machine/Operands.lean ====
section
/-! DEFINITION. Operands.lean: the byte forms: 7-bit packing of parameters and replies (R165, R179, R180), the
frame check (R62) and the frames of the yard link (R177), the bytes of a tag read (R178). -/

namespace Sys2Proof.Machine

/-! ### Packing (R179) -/

/-- g groups of seven bits, most significant first, each in a byte with its top bit clear. -/
def groups : Nat → Nat → List Byte
  | 0, _ => []
  | g + 1, v => BitVec.ofNat 8 (v / 128 ^ g % 128) :: groups g v

/-- A reply field of g bytes; what it carries for a value it cannot hold is free (log 8). -/
def pack (g v : Nat) : List Byte := if v < 128 ^ g then groups g v else groups g (Config.oversize g v)

/-- A signed reply field in two's complement (R176). -/
def packSigned (g : Nat) (v : Int) : List Byte := groups g (v % ((128 ^ g : Nat) : Int)).toNat

/-- A one-bit field. -/
def packBit (b : Bool) : List Byte := pack 1 (if b then 1 else 0)

/-- A 21-bit parameter read as a signed value (R179). -/
def signed21 (v : Nat) : Int := if v % 2097152 < 1048576 then (v % 2097152 : Nat) else ((v % 2097152 : Nat) : Int) - 2097152

/-! ### Command bytes and parameter widths (R179) -/

/-- The command a command byte names. -/
def Cmd.ofByte (b : Byte) : Option Cmd :=
  match b.toNat with
  | 0x81 => some .setStation
  | 0x82 => some .setTuning
  | 0x83 => some .mapWindow
  | 0x84 => some .mapSegment
  | 0x85 => some .mapSeal
  | 0x86 => some .mapClear
  | 0x87 => some .tagWindow
  | 0x88 => some .tagWrite
  | 0x89 => some .windowWrite
  | 0x8A => some .craneList
  | 0x90 => some .start
  | 0x91 => some .leave
  | 0x92 => some .restart
  | 0xA0 => some .setPosition
  | 0xA1 => some .route
  | 0xA2 => some .routeClear
  | 0xA3 => some .setLoad
  | 0xA4 => some .setPriority
  | 0xA5 => some .bayControl
  | 0xA6 => some .stillControl
  | 0xA7 => some .clearPeer
  | 0xC0 => some .readStatus
  | 0xC1 => some .readGuidance
  | 0xC2 => some .readPosition
  | 0xC3 => some .readRoute
  | 0xC4 => some .readClaims
  | 0xC5 => some .readPeer
  | 0xC6 => some .readBays
  | 0xC7 => some .readCounters
  | 0xC8 => some .readEvents
  | _ => none

/-- The parameter byte counts of the commands of fixed length; ROUTE's are in `nextWidth`. -/
def Cmd.widths : Cmd → List Nat
  | .setStation => [1, 1]
  | .setTuning => [1, 3]
  | .mapWindow => [2, 2]
  | .mapSegment => [3, 1, 1, 2, 2, 2, 2, 2, 2, 1, 1]
  | .mapSeal => []
  | .mapClear => []
  | .tagWindow => [2, 2]
  | .tagWrite => [4, 2, 3]
  | .windowWrite => [2, 3, 3, 2]
  | .craneList => [1, 1, 1, 1, 1, 1, 1, 1, 1]
  | .start => []
  | .leave => []
  | .restart => []
  | .setPosition => [2, 3, 1]
  | .route => []
  | .routeClear => []
  | .setLoad => [1]
  | .setPriority => [1]
  | .bayControl => [1, 1, 1, 1, 1, 1]
  | .stillControl => [1, 1]
  | .clearPeer => [2]
  | .readStatus => []
  | .readGuidance => []
  | .readPosition => []
  | .readRoute => []
  | .readClaims => []
  | .readPeer => [1]
  | .readBays => []
  | .readCounters => [1]
  | .readEvents => []

/-- ROUTE's parameters before its ids: mode, first sign in REPLACE only, count (03, "Loading a route"; log 13). -/
def routeHeader (mode : Nat) : Nat := if mode = 0 then 3 else 2

/-- ROUTE's next parameter after the values taken, in bytes: mode, first sign in REPLACE, count n, n ids,
stop-present, stop offset. -/
def routeWidth (vals : List Nat) : Option Nat :=
  match vals with
  | [] => some 1
  | mode :: _ =>
    let h := routeHeader mode
    let n := vals.getD (h - 1) 0
    let k := vals.length
    if k < h then some 1 else if k < h + n then some 2 else if k = h + n then some 1
    else if k = h + n + 1 then some 3 else none

/-- The width in bytes of the next parameter of a command, or none when all are complete (R165). -/
def Cmd.nextWidth (c : Cmd) (vals : List Nat) : Option Nat :=
  match c with
  | .route => routeWidth vals
  | _ => c.widths[vals.length]?

/-! ### Replies (R180) -/

def Status.code : Status → Nat
  | .done => 0
  | .doneClamped => 1
  | .doneCut => 2
  | .partialDone => 3
  | .refusedState => 4
  | .refusedValue => 5
  | .notHere => 6
  | .notParked => 7
  | .unknownCommand => 8

/-- The reply byte: status, RX_OVERRUN in bit 4, STRAY in bit 5, bit 7 set. -/
def replyByte (st : Status) (overrun stray : Bool) : Byte :=
  BitVec.ofNat 8 (128 + st.code + (if overrun then 16 else 0) + (if stray then 32 else 0))

/-- A reply without data. -/
def Reply.plain (st : Status) : Reply := { status := st, data := [] }

/-- A PARTIAL reply: the count received, then data (R166, R180; log 9). -/
def Reply.broken (count : Nat) (data : List Byte) : Reply := { status := .partialDone, data := pack 2 count ++ data }

/-! ### Frame check (R62) -/

/-- One bit of the frame check: shift, and combine with the generator where the bit shifted out differs from
the data bit. -/
def crcBit (r : Word16) (bit : Bool) : Word16 := if r.msb != bit then (r <<< 1) ^^^ 0x1021#16 else r <<< 1

/-- One byte, most significant bit first. -/
def crcByte (r : Word16) (b : Byte) : Word16 :=
  [7, 6, 5, 4, 3, 2, 1, 0].foldl (fun r i => crcBit r (b.getLsbD i)) r

/-- The frame check over bytes in order. -/
def frameCheck (bytes : List Byte) : Word16 := bytes.foldl crcByte 0xFFFF#16

/-- The check's two bytes, high byte first. -/
def checkBytes (c : Word16) : List Byte := [BitVec.ofNat 8 (c.toNat / 256), BitVec.ofNat 8 c.toNat]

/-- A frame: the bytes with their check appended (R62). -/
def framed (bytes : List Byte) : List Byte := bytes ++ checkBytes (frameCheck bytes)

/-- A received frame passes the check (R62); one shorter than three bytes fails it. -/
def framePasses (f : List Byte) : Bool :=
  decide (3 ≤ f.length) && (checkBytes (frameCheck (f.take (f.length - 2))) == f.drop (f.length - 2))

/-! ### Frames of the yard link (R177) -/

/-- Two bytes, most significant first (R176). -/
def two (v : Nat) : List Byte := [BitVec.ofNat 8 (v / 256), BitVec.ofNat 8 v]

/-- Two bytes read as a number. -/
def word (hi lo : Byte) : Nat := 256 * hi.toNat + lo.toNat

/-- The low ten bits of two bytes: a segment id field. -/
def word10 (hi lo : Byte) : Nat := word hi lo % 1024

def Sign.code : Sign → Nat
  | .plus => 0
  | .minus => 1

/-- The flags byte of a POSITION frame. -/
def PositionNotice.flagsByte (p : PositionNotice) : Byte :=
  BitVec.ofNat 8 ((if p.fresh then 1 else 0) + (if p.joining then 2 else 0) + (if p.still then 4 else 0) +
    (if p.laden then 8 else 0) + 16 * (p.prec % 4) + 64 * p.sign.code)

/-- The code of a bay state in a CRANE frame and in READ BAYS. -/
def BayState.code : BayState → Nat
  | .opened => 0
  | .hoist => 1
  | .shut => 2
  | .unknown => 3

/-- A notice's bytes before the frame check (R177). -/
def Notice.bytes : Notice → List Byte
  | .position p =>
      [0x01#8, BitVec.ofNat 8 p.id, BitVec.ofNat 8 p.sequence, p.flagsByte] ++ two p.segment ++ two p.offset ++ two p.speed ++
      [BitVec.ofNat 8 (16 * p.held.length + p.wanted.length)] ++ (p.held ++ p.wanted).flatMap two
  | .leave id q => [0x02#8, BitVec.ofNat 8 id, BitVec.ofNat 8 q]
  | .crane id bays => [0x03#8, BitVec.ofNat 8 id, BitVec.ofNat 8 (bays.foldr (fun b acc => b.code + 4 * acc) 0)]

/-- The ids of a list field: two bytes each, low ten bits. -/
def readIds : List Byte → List Nat
  | hi :: lo :: rest => word10 hi lo :: readIds rest
  | _ => []

/-- A bay-state code of a CRANE frame; code 3 fails the form test (R177). -/
def readBayCode : Nat → Option BayState
  | 0 => some .opened
  | 1 => some .hoist
  | 2 => some .shut
  | _ => none

/-- The form test and the reading of a frame that passed its check (R63, R177): none fails the form test. The
frame's bytes include the two check bytes. -/
def readNotice (f : List Byte) : Option Notice :=
  match f with
  | k :: id :: q :: rest =>
    if k = 0x01#8 then
      match rest with
      | fl :: s1 :: s0 :: o1 :: o0 :: v1 :: v0 :: cnt :: ids =>
        let h := cnt.toNat / 16
        let w := cnt.toNat % 16
        if h ≤ 8 ∧ w ≤ 4 ∧ f.length = 13 + 2 * (h + w) then
          let all := readIds ids
          some (.position
            { id := id.toNat, sequence := q.toNat, fresh := fl.getLsbD 0, joining := fl.getLsbD 1, still := fl.getLsbD 2,
              laden := fl.getLsbD 3, prec := fl.toNat / 16 % 4, segment := word10 s1 s0, offset := word o1 o0,
              sign := if fl.getLsbD 6 then .minus else .plus, speed := word v1 v0, held := all.take h,
              wanted := (all.drop h).take w })
        else none
      | _ => none
    else if k = 0x02#8 then (if f.length = 5 then some (.leave id.toNat q.toNat) else none)
    else if k = 0x03#8 then
      (if f.length = 5 then
        match readBayCode (q.toNat % 4), readBayCode (q.toNat / 4 % 4), readBayCode (q.toNat / 16 % 4),
            readBayCode (q.toNat / 64) with
        | some a, some b, some c, some d => some (.crane id.toNat [a, b, c, d])
        | _, _, _, _ => none
      else none)
    else none
  | _ => none

/-! ### Tag reads (R178) -/

/-- The reading of the five bytes after the lead byte: tag id and signed reader offset; none for a read that
fails a test of R153. -/
def readTag (b1 b2 b3 b4 b5 : Byte) : Option (Nat × Int) :=
  let tagId := 65536 * b1.toNat + 256 * b2.toNat + b3.toNat
  let off := b4.toInt
  if b5 = b1 ^^^ b2 ^^^ b3 ^^^ b4 ∧ tagId ≠ 0 ∧ -100 ≤ off ∧ off ≤ 100 then some (tagId, off) else none

end Sys2Proof.Machine
end

