-- ==== Sys2Proof/Machine/Notices.lean ====
section
/-! DEFINITION. Notices.lean: building the station's own notices and the Notice Scheduler's operations
(R60, R66 to R75). -/

namespace Sys2Proof.Machine

def Claim.isHeld (e : Claim) : Bool := e.state == .held

/-- The held list a notice would carry (R115). -/
def heldIds (l : List Claim) : List Nat := (l.filter (·.isHeld)).map (·.seg)

/-- The wanted list a notice would carry (R115). -/
def wantedIds (l : List Claim) : List Nat := (l.filter (fun e => !e.isHeld)).map (·.seg)

/-- The content of a POSITION notice built now (R66). -/
def State.positionNotice (s : State) : PositionNotice :=
  { id := s.ctl.id, sequence := s.sched.sequence, fresh := decide (0 < s.sched.freshStart),
    joining := s.ctl.state == .joining, still := s.pos.motion == .still, laden := s.load == .laden,
    prec := s.claim.prec, segment := s.segmentHere, offset := s.plusOffset, sign := s.travelSign, speed := s.odo.speed,
    held := heldIds s.claim.list, wanted := wantedIds s.claim.list }

/-- The Link Port places a handed notice in the transmit slot, replacing an untaken one (R60, R62). -/
def State.placeNotice (n : Notice) (s : State) : State :=
  { s with link := { s.link with
      slot := some { notice := n, frame := framed n.bytes },
      replaced := if s.link.slot.isSome then sat16 (s.link.replaced + 1) else s.link.replaced } }

/-- Each built notice uses up the sequence number (R68). -/
def State.spendSequence (s : State) : State := { s with sched := { s.sched with sequence := (s.sched.sequence + 1) % 256 } }

/-- Build a POSITION notice and hand it to the Link Port (R66, R68). -/
def State.buildPosition (s : State) : State := s.spendSequence.placeNotice (.position s.positionNotice)

/-- Build a LEAVE notice and hand it to the Link Port (R67, R68). -/
def State.buildLeave (s : State) : State := s.spendSequence.placeNotice (.leave s.ctl.id s.sched.sequence)

/-- Start the prompt guard timer (R73). -/
def State.startGuard (s : State) : State := { s with sched := { s.sched with guard := some (s.after s.promptGuard) } }

def State.setPendingNotice (b : Bool) (s : State) : State := { s with sched := { s.sched with pendingNotice := b } }

/-- The Claim Unit's list change report (R73). -/
def State.listChange (s : State) : State :=
  if s.working then
    (if s.sched.guard.isNone then s.buildPosition.startGuard else s.setPendingNotice true)
  else s.setPendingNotice false

/-- The interval length of a slot, in ms (R70): the longest of A, B and C while STILL. -/
def State.slotInterval (s : State) (slot : Nat) : Nat :=
  if s.pos.motion = .still then max (s.tuning 12) (max (s.tuning 13) (s.tuning 14))
  else s.tuning (12 + s.tuning (15 + slot))

/-- Begin the interval of a slot (R70, R71). -/
def State.beginSlot (slot : Nat) (s : State) : State :=
  { s with sched := { s.sched with slotIndex := slot, cadence := some (s.after (s.slotInterval slot)) } }

/-- Decide the open window's notice and close the window (R72). -/
def Scheduler.decideWindow (c : Scheduler) : Scheduler :=
  match c.window with
  | none => c
  | some w =>
    if w.coincident then
      if 4 ≤ c.nearCount + 1 then { c with window := none, nearCount := 0, slotIndex := (c.slotIndex + 1) % 8 }
      else { c with window := none, nearCount := c.nearCount + 1 }
    else { c with window := none, nearCount := 0 }

/-- A peer arrival marks the open window's notice coincident (R63, R72). -/
def Scheduler.peerArrival (c : Scheduler) : Scheduler :=
  { c with window := c.window.map (fun w => { w with coincident := true }) }

/-- START at the Notice Scheduler and the Link Port (R70, R72, R73, R75). -/
def State.startScheduler (s : State) : State :=
  { s with sched := { s.sched with freshStart := 3, nearCount := 0, window := none, guard := none,
                                   pendingNotice := false } }.beginSlot (s.ctl.id % 8)

/-- Entry to LEAVING (R72, R74). -/
def State.enterLeaving (s : State) : State :=
  { s with sched := { s.sched with cadence := none, pendingNotice := false, window := none, nearCount := 0,
                                   leaveCount := 0 } }.buildLeave.startGuard

end Sys2Proof.Machine
end

