-- ==== Sys2Proof/Machine/RouteOps.lean ====
section
/-! DEFINITION. RouteOps.lean: what the Route Queue does by itself: consumption behind the carrier (R54, R55),
the arrival test (R56), and the writing of ids (R42, R48). -/

namespace Sys2Proof.Machine

/-- A front removal moves a claim entry's span and its route entry with it (R26, R96). -/
def Claim.shift (d : Int) (e : Claim) : Claim :=
  { e with spanStart := e.spanStart - d,
           tie := match e.tie with
             | .route i => .route (i - 1)
             | .detached => .detached }

/-- Remove route entry 0: every later entry moves down, the route index falls by one (R26, R54). -/
def State.removeFront (s : State) : State :=
  match s.route.entries with
  | [] => s
  | e :: rest =>
    { s with
      route := { s.route with entries := rest },
      pos := { s.pos with index := s.pos.index.map (· - 1) },
      claim := { s.claim with list := s.claim.list.map (Claim.shift (s.map.lengthOf e.seg)) } }

/-- Whether entry 0 lies behind the current entry (R54). -/
def State.indexPastFront (s : State) : Bool :=
  match s.pos.index with
  | some i => decide (1 ≤ i)
  | none => false

/-- The Claim Unit reports the release of a segment (R54). -/
def State.routeRelease (s : State) (seg : Nat) : State :=
  match s.route.entries with
  | [] => s
  | e :: _ => if e.seg = seg ∧ s.indexPastFront then s.removeFront else s

/-- Whether entry 0 is to be trimmed (R55). -/
def State.trimsFront (s : State) : Bool :=
  match s.route.entries, s.body with
  | e :: _, some b =>
    s.indexPastFront && decide (b.rear > s.map.lengthOf e.seg + s.releaseMargin) &&
      !(s.claim.list.any (·.seg == e.seg))
  | _, _ => false

/-- The trim test, repeated after each removal (R55). -/
def trimRepeat : Nat → State → State
  | 0, s => s
  | n + 1, s => if s.trimsFront then trimRepeat n s.removeFront else s

/-- R55; each removal takes one entry, so the entries held bound the repetition. -/
def State.trim (s : State) : State := trimRepeat s.route.entries.length s

/-- Whether every condition of R56 holds. -/
def State.arrives (s : State) : Bool :=
  match s.route.stop, s.pos.index with
  | some stop, some i =>
    s.route.armed && s.placed && s.pos.motion == .still && decide (i + 1 = s.route.entries.length) &&
      decide ((s.pos.offset : Int) - stop ≤ s.arriveTolerance) && decide ((stop : Int) - s.pos.offset ≤ s.arriveTolerance)
  | _, _ => false

/-- The arrival test (R56). -/
def State.testArrival (s : State) : State :=
  if s.arrives then { s with route := { s.route with armed := false } }.raise .arrived else s

/-! ### Writing ids (R42, R48) -/

/-- An entry's exit node (R41). -/
def MapStore.exitNode (m : MapStore) (e : RouteEntry) : Option Nat :=
  (m.segment e.seg).map (fun g => match e.sign with
    | .plus => g.nodeB
    | .minus => g.nodeA)

/-- The sign of a new entry after another, or no continuation (R42). -/
def MapStore.continues (m : MapStore) (prev : RouteEntry) (seg : Nat) : Option Sign :=
  if seg = prev.seg then none
  else match m.exitNode prev, m.segment seg with
    | some n, some g => if g.nodeA = n then some .plus else if g.nodeB = n then some .minus else none
    | _, _ => none

/-- The reasons of a cut, in the order of their codes (R48, R180). -/
inductive CutReason where
  | capacity | absent | notAdjacent
  deriving DecidableEq, Repr

def CutReason.code : CutReason → Nat
  | .capacity => 1
  | .absent => 2
  | .notAdjacent => 3

/-- What taking ids did: the entries written and the cut, with the cut id's position in the command's list. -/
structure Taking where
  entries : List RouteEntry
  cut : Option (CutReason × Nat)
  deriving DecidableEq, Repr

/-- Take ids in order after prev, with room for as many as given; at is the position of the first id in the
command's list (R48). -/
def takeIds (m : MapStore) : Nat → Nat → RouteEntry → List Nat → Taking
  | _, _, _, [] => { entries := [], cut := none }
  | 0, pos, _, _ :: _ => { entries := [], cut := some (.capacity, pos) }
  | room + 1, pos, prev, id :: rest =>
    if m.present id then
      match m.continues prev id with
      | none => { entries := [], cut := some (.notAdjacent, pos) }
      | some sg =>
        let e : RouteEntry := { seg := id, sign := sg }
        let t := takeIds m room (pos + 1) e rest
        { t with entries := e :: t.entries }
    else { entries := [], cut := some (.absent, pos) }

end Sys2Proof.Machine
end

