-- ==== Sys2Proof/Machine/Claims.lean ====
section
/-! DEFINITION. Claims.lean: the Claim Unit (chapter 6). `claimEvent` is one event of the unit: the event's own
effect, then the steps of R99 in order, then the hand-overs to the Route Queue and the Notice Scheduler. -/

namespace Sys2Proof.Machine

/-- Put a list in place: a pair whose own entry has left HELD leaves the double-hold record (R108). -/
def State.setClaims (l : List Claim) (s : State) : State :=
  { s with claim := { s.claim with list := l, doubles := s.claim.doubles.filter (fun p => (heldIds l).contains p.2) } }

def heldCount (l : List Claim) : Nat := (l.filter (·.isHeld)).length

def wantedCount (l : List Claim) : Nat := (l.filter (fun e => !e.isHeld)).length

/-- W, the WANTED entry at the front of the WANTED part (R95). -/
def firstWanted (l : List Claim) : Option Claim := l.find? (fun e => !e.isHeld)

/-- What an entry shows to the Guidance Unit: a change of it is a change of the list (R99). -/
def Claim.shape (e : Claim) : Nat × ClaimState × Tie × Int := (e.seg, e.state, e.tie, e.spanStart)

/-- A HELD entry made WANTED by a turn-back (R106, R107). -/
def Claim.turnedBack (e : Claim) : Claim := { e with state := .wanted, advertised := 0, waitStart := none }

/-! ### Step 2: release and dropping (R109, R111) -/

/-- Whether step 2 takes an entry out of the list. -/
def State.leavesBehind (s : State) (b : Body) (e : Claim) : Bool :=
  match e.state, e.tie with
  | .wanted, _ => b.passed (s.claimStop e)
  | .held, .route _ => decide (b.rear - s.claimStop e > s.releaseMargin)
  | .held, .detached => b.sees e.spanStart || decide (b.rear - s.claimStop e > s.releaseMargin)

/-- Step 2 of R99, with the entries released. -/
def State.releaseBehind (s : State) : State × List Claim :=
  match s.body with
  | none => (s, [])
  | some b =>
    (s.setClaims (s.claim.list.filter (fun e => !s.leavesBehind b e)),
     s.claim.list.filter (fun e => e.isHeld && s.leavesBehind b e))

/-! ### Step 3: occupancy (R105, R106) -/

/-- Apply f to the last entry that satisfies p; none if no entry does. -/
def mapLast (p : Claim → Bool) (f : Claim → List Claim) : List Claim → Option (List Claim)
  | [] => none
  | e :: rest =>
    match mapLast p f rest with
    | some rest' => some (e :: rest')
    | none => if p e then some (f e ++ rest) else none

/-- Apply f to the first entry that satisfies p; none if no entry does. -/
def mapFirst (p : Claim → Bool) (f : Claim → List Claim) : List Claim → Option (List Claim)
  | [] => none
  | e :: rest =>
    if p e then some (f e ++ rest)
    else match mapFirst p f rest with
      | some rest' => some (e :: rest')
      | none => none

/-- Making room for one more HELD entry (R106): turn back the farthest HELD entry wholly ahead; else release the
rearmost HELD entry wholly behind; else release the farthest DETACHED entry. That the farthest of these is the last of
the list, also of two with one span start, is log 39 (DESIGN CHOICE). With the entry released. -/
def State.makeRoom (s : State) (b : Body) : State × List Claim :=
  if heldCount s.claim.list < Config.heldCapacity then (s, [])
  else match mapLast (fun e => e.isHeld && b.sees e.spanStart) (fun e => [e.turnedBack]) s.claim.list with
    | some l => (s.setClaims l, [])
    | none =>
      match s.claim.list.find? (fun e => e.isHeld && b.passed (s.claimStop e)) with
      | some out => (s.setClaims (s.claim.list.erase out), [out])
      | none =>
        match (s.claim.list.filter (fun e => e.tie == .detached)).getLast? with
        | some out => (s.setClaims (s.claim.list.erase out), [out])
        | none => (s, [])

/-- Drop the WANTED entry farthest ahead, when there is one. -/
def dropFarthest (l : List Claim) : List Claim :=
  match mapLast (fun e => !e.isHeld) (fun _ => []) l with
  | some l' => l'
  | none => l

/-- Drop WANTED entries farthest ahead until both limits hold (R106, R107). -/
def dropExcess : Nat → List Claim → List Claim
  | 0, l => l
  | n + 1, l =>
    if Config.wantedCapacity < wantedCount l ∨ Config.claimCapacity < l.length then dropExcess n (dropFarthest l) else l

/-- R106, R107; each drop takes one entry, so the length bounds the repetition. -/
def capWanted (l : List Claim) : List Claim := dropExcess l.length l

/-- Enter a claim entry in its order: by span start, a DETACHED entry first among equals (R96). -/
def insertClaim (x : Claim) : List Claim → List Claim
  | [] => [x]
  | e :: rest =>
    if x.spanStart < e.spanStart ∨ (e.spanStart = x.spanStart ∧ e.tie ≠ .detached) then x :: e :: rest
    else e :: insertClaim x rest

/-- Whether a peer entry of any status has a segment of seg's conflict set in its held list. -/
def State.peerHolds (s : State) (seg : Nat) : Bool := s.peers.entries.any (fun p => s.map.conflictHit p.held seg)

/-- The list without the WANTED entry of a segment that occupancy takes for a route entry. Where it was listed for a later
passage, the WANTED entries after it go with it, so that the list still names consecutive route entries and filling
adds that passage again once this one is released (R100; log 12). -/
def takeListed (p : Span) : List Claim → List Claim
  | [] => []
  | e :: rest =>
    if e.seg == p.seg then (if e.tie == .route p.index then rest else rest.filter (·.isHeld))
    else e :: takeListed p rest

/-- Occupancy of one route entry under the body (R105). A segment listed as WANTED becomes HELD on this route
entry, also where it was listed for a later passage (log 12). -/
def State.occupyEntry (b : Body) (acc : State × List Claim) (sp : Span) : State × List Claim :=
  let s := acc.1
  if s.claim.list.any (fun e => e.seg == sp.seg && e.isHeld) then acc
  else
    let r := s.makeRoom b
    let e : Claim := { seg := sp.seg, state := .held, tie := .route sp.index, spanStart := sp.start, advertised := 0,
                       waitStart := none }
    ((r.1.setClaims (capWanted (insertClaim e (takeListed sp r.1.claim.list)))).raiseIf (s.peerHolds sp.seg) .occupyConflict, acc.2 ++ r.2)

/-- Step 3 of R99: every route entry the body lies on, rearmost first (R105). -/
def State.occupy (s : State) : State × List Claim :=
  match s.body with
  | none => (s, [])
  | some b => (s.spans.filter (fun p => b.on p.start p.stop)).foldl (State.occupyEntry b) (s, [])

/-! ### Step 4: filling (R100) -/

/-- The route index of the last tied entry (R100). -/
def lastTied (l : List Claim) : Option Nat :=
  (l.filterMap (fun e => match e.tie with
    | .route i => some i
    | .detached => none)).getLast?

/-- The route entry filling looks at: the one after the last tied entry, or the one under the centre. -/
def State.fillIndex (s : State) : Option Nat :=
  match lastTied s.claim.list with
  | some i => some (i + 1)
  | none => s.pos.index

/-- The entry filling adds next, if every condition of R100 holds. The last tied entry's span end is the next
route entry's span start. -/
def State.fillNext (s : State) : Option Claim :=
  match s.body, s.fillIndex with
  | some b, some i =>
    match s.spans[i]? with
    | some sp =>
      if !(s.claim.list.any (·.seg == sp.seg)) && decide (wantedCount s.claim.list < Config.wantedCapacity) &&
          decide (s.claim.list.length < Config.claimCapacity) && decide (sp.start - b.front < s.claimReach) then
        some { seg := sp.seg, state := .wanted, tie := .route i, spanStart := sp.start, advertised := 0, waitStart := none }
      else none
    | none => none
  | _, _ => none

/-- Filling, repeated after each addition. -/
def fillRepeat : Nat → State → State
  | 0, s => s
  | n + 1, s =>
    match s.fillNext with
    | some e => fillRepeat n (s.setClaims (s.claim.list ++ [e]))
    | none => s

/-- Step 4 of R99; at most four WANTED entries bound the repetition. -/
def State.fill (s : State) : State := fillRepeat (Config.wantedCapacity + 1) s

/-! ### Step 5: examination, promotion and the face-off test (R102, R103, R114) -/

/-- Precedence keys: class first, then station id; the lower takes precedence (R97). -/
def keyLower (c1 id1 c2 id2 : Nat) : Bool := decide (c1 < c2) || (c1 == c2 && decide (id1 < id2))

/-- A peer's key is lower than the own key. -/
def State.outranks (s : State) (p : Peer) : Bool := keyLower p.prec p.id s.claim.prec s.ctl.id

/-- Condition 1 of R102. -/
def State.mayPromote (s : State) : Bool :=
  s.ctl.state == .run && !s.claim.satSuspension && s.claim.clash.isNone && s.placed

/-- Condition 3 fails: a FRESH or QUIET peer of lower key wants a segment of the conflict set. -/
def State.betterAsker (s : State) (seg : Nat) : Bool :=
  s.peers.entries.any (fun p => p.status != .lost && s.map.conflictHit p.wanted seg && s.outranks p)

/-- Condition 5 fails: a QUIET peer reports a segment of the conflict set or adjacent to seg. -/
def State.quietNeighbour (s : State) (seg : Nat) : Bool :=
  s.peers.entries.any (fun p => p.status == .quiet &&
    ((s.map.conflictSet seg).contains p.segment || s.map.adjacency seg p.segment != .none))

/-- The state of a bay (R121). -/
def BayTable.stateOf (t : BayTable) (crane bay : Nat) : BayState :=
  match t.cranes.find? (·.id == crane) with
  | some c => match c.bays[bay]? with
    | some b => b.state
    | none => .unknown
  | none => .unknown

/-- A BAY segment's bay state; none for a segment of another kind (R121). -/
def State.bayOf (s : State) (seg : Nat) : Option BayState :=
  match s.map.segment seg with
  | some g => match g.kind with
    | .bay c b => some (s.bays.stateOf c b)
    | _ => none
  | none => none

/-- Condition 6 of R102. -/
def State.bayAllows (s : State) (seg : Nat) : Bool :=
  match s.bayOf seg with
  | some st => st == .opened
  | none => true

/-- Whether W is promoted (R102). -/
def State.promotes (s : State) (w : Claim) : Bool :=
  decide (heldCount s.claim.list < Config.heldCapacity) && s.mayPromote && !s.peerHolds w.seg && !s.betterAsker w.seg &&
  decide (s.maturing ≤ w.advertised) && !s.quietNeighbour w.seg && s.bayAllows w.seg

/-- The promoted entry (R102). -/
def Claim.promoted (e : Claim) : Claim := { e with state := .held, advertised := 0, waitStart := none }

/-- The list with W promoted. -/
def promoteFirst (l : List Claim) : List Claim :=
  match mapFirst (fun e => !e.isHeld) (fun e => [e.promoted]) l with
  | some l' => l'
  | none => l

/-- The cascade of R103, with whether it promoted. -/
def cascade : Nat → State → State × Bool
  | 0, s => (s, false)
  | n + 1, s =>
    match firstWanted s.claim.list with
    | none => (s, false)
    | some w => if s.promotes w then ((cascade n (s.setClaims (promoteFirst s.claim.list))).1, true) else (s, false)

/-- The peers the face-off test finds (R114). -/
def State.faceOffPeers (s : State) (w : Claim) : List Peer :=
  s.peers.entries.filter (fun p => s.map.conflictHit p.held w.seg && p.status != .lost &&
    (match p.wanted with
     | [] => false
     | v :: _ => (heldIds s.claim.list).any (fun h => (s.map.conflictSet h).contains v)))

/-- The peer of lowest key. -/
def lowestKey : List Peer → Option Peer
  | [] => none
  | p :: rest =>
    match lowestKey rest with
    | none => some p
    | some q => if keyLower q.prec q.id p.prec p.id then some q else some p

/-- The face-off test (R114). -/
def State.testFaceOff (s : State) : State :=
  match (firstWanted s.claim.list).bind (fun w => lowestKey (s.faceOffPeers w)) with
  | none => { s with claim := { s.claim with faceOff := none } }
  | some p =>
    let s' := { s with claim := { s.claim with faceOff := some { peer := p.id, yields := s.outranks p } } }
    match s.claim.faceOff with
    | some f => if f.peer = p.id then s' else s'.raiseFaceOff p.id
    | none => s'.raiseFaceOff p.id

/-! ### Step 6: the wait timer (R113) -/

/-- Only W has a wait start; an entry that has become W gets the time of the event. -/
def settleWaits (now : Nat) : List Claim → List Claim
  | [] => []
  | e :: rest =>
    if e.isHeld then { e with waitStart := none } :: settleWaits now rest
    else { e with waitStart := some (e.waitStart.getD now) } :: rest.map (fun x => { x with waitStart := none })

/-- Step 6 of R99: the mark is cleared when an entry becomes W. -/
def State.settleWait (s : State) : State :=
  { s with claim := { s.claim with
      list := settleWaits s.clock s.claim.list,
      waitReported := match firstWanted s.claim.list with
        | some w => s.claim.waitReported && w.waitStart.isSome
        | none => s.claim.waitReported } }

/-! ### The event (R99) -/

/-- The list change report (R115). -/
def State.reportLists (s : State) : State :=
  if heldIds s.claim.list = s.claim.lastHeld ∧ wantedIds s.claim.list = s.claim.lastWanted then s
  else { s with claim := { s.claim with lastHeld := heldIds s.claim.list, lastWanted := wantedIds s.claim.list } }.listChange

/-- Steps 2 to 4, in JOINING and RUN with a position, after the event's own effect. -/
def claimSteps (r : State × List Claim) : State × List Claim :=
  if r.1.working && r.1.placed then
    let r2 := r.1.releaseBehind
    let r3 := r2.1.occupy
    (r3.1.fill, r.2 ++ r2.2 ++ r3.2)
  else r

/-- Step 5, and step 4 once more after a promotion. -/
def State.examine (s : State) : State :=
  let c := cascade Config.claimCapacity s
  let f := c.1.testFaceOff
  if c.2 && f.placed then f.fill else f

/-- The releases of an event as they are handed over: the segments in route order (R99). -/
def releaseOrder (l : List Claim) : List Nat := (l.foldl (fun acc e => insertClaim e acc) []).map (·.seg)

/-- One event of the Claim Unit (R99): own is step 1, with the entries it releases; exam says whether the event
calls for an examination (R103), which is also made when the list has changed. The second part says whether any
entry was added, removed, or changed in state, tie or span. -/
def claimEvent (own : State → State × List Claim) (exam : Bool) (s : State) : State × Bool :=
  let old := s.claim.list.map Claim.shape
  let r := claimSteps (own s)
  let changed4 := decide (r.1.claim.list.map Claim.shape ≠ old)
  let s5 := if (exam || changed4) && r.1.working then r.1.examine else r.1
  let s6 := s5.settleWait
  let changed := decide (s6.claim.list.map Claim.shape ≠ old)
  let s7 := (releaseOrder r.2).foldl State.routeRelease s6
  let s8 := if changed then s7.trim else s7
  (s8.reportLists, changed)

/-! ### Step 1 of the events -/

/-- No effect of its own. -/
def ownNothing (s : State) : State × List Claim := (s, [])

/-- An own POSITION notice taken: advertising (R101). -/
def ownAdvertise (wanted : List Nat) (s : State) : State × List Claim :=
  (s.setClaims (s.claim.list.map (fun e =>
    if !e.isHeld && wanted.contains e.seg then { e with advertised := min 7 (e.advertised + 1) } else e)), [])

/-- The double-hold record takes a standing pair (R108), after those it holds (log 38, DESIGN CHOICE). -/
def State.recordDouble (peer seg : Nat) (s : State) : State :=
  if s.claim.doubles.contains (peer, seg) then s
  else
    let s' := s.raise .doubleHold
    if s.claim.doubles.length < Config.doubleHoldCapacity then
      { s' with claim := { s'.claim with doubles := s'.claim.doubles ++ [(peer, seg)] } }
    else s'

/-- E and every HELD entry after it are turned back, and excess WANTED entries dropped (R107). -/
def turnBackFrom (seg : Nat) : List Claim → List Claim
  | [] => []
  | e :: rest =>
    if e.isHeld && e.seg == seg then
      (e :: rest).map (fun x => if x.isHeld then x.turnedBack else x)
    else e :: turnBackFrom seg rest

/-- The double-hold test over the own HELD entries in route order (R107). -/
def doubleHoldWalk (b : Body) (p : Peer) : List Claim → State → State
  | [], s => s
  | e :: rest, s =>
    if e.isHeld && s.map.conflictHit p.held e.seg then
      if s.outranks p && b.sees e.spanStart then
        s.setClaims (capWanted (turnBackFrom e.seg s.claim.list))
      else doubleHoldWalk b p rest (s.recordDouble p.id e.seg)
    else doubleHoldWalk b p rest s

/-- An accepted notice from a peer: pairs no longer standing leave the record (R108), then the test (R107); the order is
log 37 (DESIGN CHOICE). -/
def ownAccepted (p : Peer) (s : State) : State × List Claim :=
  let s' := { s with claim := { s.claim with
    doubles := s.claim.doubles.filter (fun d => d.1 != p.id || s.map.conflictHit p.held d.2) } }
  (match s'.body with
   | some b => if s'.working then doubleHoldWalk b p s'.claim.list s' else s'
   | none => s', [])

/-- A removal report: the peer's pairs leave the record (R108). -/
def ownRemoval (peer : Nat) (s : State) : State × List Claim :=
  ({ s with claim := { s.claim with doubles := s.claim.doubles.filter (fun d => d.1 != peer) } }, [])

/-- The saturation suspension follows the Peer View (R104). -/
def ownSaturation (on : Bool) (s : State) : State × List Claim := ({ s with claim := { s.claim with satSuspension := on } }, [])

/-- A clash report: the clash suspension turns ON and its timer starts (R104). -/
def ownClash (s : State) : State × List Claim := ({ s with claim := { s.claim with clash := some (s.after s.lostTime) } }, [])

/-- Every entry and the records are cleared, no release reported (R112, R117). The mark is cleared by SET POSITION. -/
def State.clearClaims (s : State) : State :=
  { s with claim := { s.claim with list := [], doubles := [], faceOff := none } }

/-- SET POSITION's request (R112). -/
def ownSeed (s : State) : State × List Claim :=
  let s' := s.clearClaims
  ({ s' with claim := { s'.claim with waitReported := false } }, [])

/-- The change into LEAVING (R117). -/
def ownLeaving (s : State) : State × List Claim := (s.clearClaims, [])

/-- START: the last reported lists become empty (R115). -/
def ownStart (s : State) : State × List Claim := ({ s with claim := { s.claim with lastHeld := [], lastWanted := [] } }, [])

/-- Split the list where the matching of R110 stops: true marks the ROUTE entries from the first unmatched on. -/
def markUnmatched (entries : List RouteEntry) : Bool → List Claim → List (Claim × Bool)
  | _, [] => []
  | broken, e :: rest =>
    match e.tie with
    | .detached => (e, false) :: markUnmatched entries broken rest
    | .route i =>
      let miss := broken || (match entries[i]? with
        | some r => r.seg != e.seg
        | none => true)
      (e, miss) :: markUnmatched entries miss rest

/-- Whether an unmatched HELD entry is kept as DETACHED (R110). -/
def State.detaches (s : State) (e : Claim) : Bool :=
  match s.body with
  | none => false
  | some b => b.on e.spanStart (s.claimStop e) ||
      (b.passed (s.claimStop e) && decide (b.rear - s.claimStop e ≤ s.releaseMargin))

/-- A route change: the list is matched against the new route (R110). -/
def ownRouteChange (s : State) : State × List Claim :=
  let marked := markUnmatched s.route.entries false s.claim.list
  (s.setClaims (marked.filterMap (fun p =>
      if !p.2 then some p.1
      else if p.1.isHeld && s.detaches p.1 then some { p.1 with tie := .detached } else none)),
   (marked.filter (fun p => p.2 && p.1.isHeld && !s.detaches p.1)).map Prod.fst)

end Sys2Proof.Machine
end

