-- ==== Sys2Proof/Machine/Guide.lean ====
section
/-! DEFINITION. Guide.lean: the guidance record (chapter 8), the Line Driver's hand-over (R149, R150, R152), and
the recomputation with its order of reports (R133). -/

namespace Sys2Proof.Machine

/-! ### Arithmetic -/

/-- Try the bits of a root from bit k down. -/
def sqrtBits (n : Nat) : Nat → Nat → Nat
  | 0, r => r
  | k + 1, r => if (r + 2 ^ k) * (r + 2 ^ k) ≤ n then sqrtBits n k (r + 2 ^ k) else sqrtBits n k r

/-- The integer square root (R1, R137). -/
def isqrt (n : Nat) : Nat := sqrtBits n (n.log2 / 2 + 1) 0

/-- The first of the smallest terms, in the given order (R145). -/
def leastTerm : List (Cause × Int) → Option (Cause × Int)
  | [] => none
  | t :: rest =>
    match leastTerm rest with
    | none => some t
    | some u => if u.2 < t.2 then some u else some t

/-- A travel limit: floored at 0 and clamped to 65,535 (R135, R143). -/
def limitOf (d : Int) : Nat := min 65535 d.toNat

/-! ### Held runs (R134) -/

/-- A route entry counts as held when a HELD ROUTE claim has its segment and its span. -/
def State.holds (s : State) (p : Span) : Bool :=
  s.claim.list.any (fun e => e.isHeld && e.tie != .detached && e.seg == p.seg && e.spanStart == p.start)

/-- The forward held run, from the entry under the front end (R134). -/
def State.forwardRun (s : State) (b : Body) : List Span :=
  match s.spans.dropWhile (fun p => decide (p.stop < b.front)) with
  | p :: rest => if p.start < b.front then (p :: rest).takeWhile s.holds else []
  | [] => []

/-- The backward held run, rearmost last, from the entry under the rear end (R134). -/
def State.backwardRun (s : State) (b : Body) : List Span :=
  match s.spans.reverse.dropWhile (fun p => decide (p.start > b.rear)) with
  | p :: rest => if p.stop > b.rear then (p :: rest).takeWhile s.holds else []
  | [] => []

/-! ### Stretches under the body -/

/-- Route entries the body lies on (R96). -/
def State.routeUnder (s : State) (b : Body) : List Span := s.spans.filter (fun p => b.on p.start p.stop)

/-- DETACHED entries the body lies on (R96). -/
def State.detachedUnder (s : State) (b : Body) : List Claim :=
  s.claim.list.filter (fun e => e.tie == .detached && b.on e.spanStart (s.claimStop e))

/-- Every stretch the body lies on, with its segment (R136). -/
def State.stretchesUnder (s : State) (b : Body) : List (Nat × Int × Int) :=
  (s.routeUnder b).map (fun p => (p.seg, p.start, p.stop)) ++
  (s.detachedUnder b).map (fun e => (e.seg, e.spanStart, s.claimStop e))

/-! ### Crane bays (R136) -/

/-- A BAY segment that is not OPEN. -/
def State.bayClosed (s : State) (seg : Nat) : Bool :=
  match s.bayOf seg with
  | some st => st != .opened
  | none => false

/-- A bay under the body holds the PTL at 0 (R136). -/
def State.bayStopsAhead (s : State) (b : Body) : Bool :=
  (s.stretchesUnder b).any (fun x => match s.bayOf x.1 with
    | some .hoist => true
    | some .unknown => true
    | some .shut => decide (b.rear < x.2.1) && decide (b.front < x.2.2)
    | _ => false)

/-- A bay under the body holds the rearward limit at 0 (R136). -/
def State.bayStopsBack (s : State) (b : Body) : Bool :=
  (s.stretchesUnder b).any (fun x => match s.bayOf x.1 with
    | some .hoist => true
    | some .unknown => true
    | some .shut => decide (b.front > x.2.2) && decide (b.rear > x.2.1)
    | _ => false)

/-! ### Travel limits (R135, R143) -/

/-- The terms of the PTL in the order of R145's naming: BAY, DESTINATION, GRANT_END, ROUTE_END. -/
def State.ptlTerms (s : State) (b : Body) : List (Cause × Int) :=
  let run := s.forwardRun b
  let so : Int := s.standoff
  (if s.bayStopsAhead b then [(Cause.bay, 0)] else []) ++
  (run.filter (fun p => b.sees p.start && s.bayClosed p.seg)).map (fun p => (.bay, p.start - b.front - so)) ++
  (match s.route.stop, s.spans.getLast? with
   | some d, some p => [(.destination, p.start + d - (b.front - s.halfLength))]
   | _, _ => []) ++
  (match run.getLast? with
   | some p => [(.grantEnd, p.stop - b.front - so)]
   | none => []) ++
  (if s.route.stop.isNone then [(.routeEnd, s.routeLength - b.front - so)] else [])

/-- The PTL with the cause that gave it (R135). -/
def State.ptl (s : State) (b : Body) : Cause × Nat :=
  if (s.forwardRun b).isEmpty then (.grantEnd, 0)
  else match leastTerm (s.ptlTerms b) with
    | some t => (t.1, limitOf t.2)
    | none => (.grantEnd, 0)

/-- The terms of the rearward limit, BAY first (R143, R145). -/
def State.rearwardTerms (s : State) (b : Body) : List (Cause × Int) :=
  let run := s.backwardRun b
  let so : Int := s.standoff
  (if s.bayStopsBack b then [(Cause.bay, 0)] else []) ++
  (run.filter (fun p => b.passed p.stop && s.bayClosed p.seg)).map (fun p => (.bay, b.rear - p.stop - so)) ++
  (match run.getLast? with
   | some p => [(.grantEnd, b.rear - p.start - so)]
   | none => [])

/-- The rearward limit with the cause that gave it (R143). -/
def State.rearward (s : State) (b : Body) : Cause × Nat :=
  if (s.backwardRun b).isEmpty then (.grantEnd, 0)
  else match leastTerm (s.rearwardTerms b) with
    | some t => (t.1, limitOf t.2)
    | none => (.grantEnd, 0)

/-! ### The ceiling (R137 to R145) -/

/-- The class ceiling of a segment (R137). -/
def State.ceilingOf (s : State) (seg : Nat) : Nat :=
  match s.map.segment seg with
  | some g => s.classCeiling g.cls
  | none => 0

/-- A braking term: the highest speed from which the carrier can slow to c over d cm (R137). -/
def State.braking (s : State) (c : Nat) (d : Int) : Nat := isqrt (c * c + 2 * s.deceleration * d.toNat)

/-- A slow window's edges on the route, near edge first (R138). -/
def State.placeWindow (s : State) (p : Span) (w : SlowWindow) : Int × Int :=
  match p.sign with
  | .plus => (p.start + w.start, p.start + w.stop)
  | .minus => (p.start + s.map.lengthOf p.seg - w.stop, p.start + s.map.lengthOf p.seg - w.start)

/-- Window terms of windows that overlap the body, on route entries under it and on DETACHED entries (R138, R144). -/
def State.windowsUnder (s : State) (b : Body) : List (Cause × Int) :=
  ((s.routeUnder b).flatMap (fun p => ((s.map.windowsOn p.seg).filter (fun w =>
      let e := s.placeWindow p w
      decide (e.1 < b.front) && decide (e.2 > b.rear))).map (fun w => (Cause.window, (w.ceiling : Int))))) ++
  ((s.detachedUnder b).flatMap (fun e => (s.map.windowsOn e.seg).map (fun w => (Cause.window, (w.ceiling : Int)))))

/-- Class terms of the segments under the body (R137, R144). -/
def State.classesUnder (s : State) (b : Body) : List (Cause × Int) :=
  (s.stretchesUnder b).map (fun x => (Cause.classCeiling, (s.ceilingOf x.1 : Int)))

/-- Entries of the forward held run wholly ahead of the body (R137). -/
def State.runAhead (s : State) (b : Body) : List Span := (s.forwardRun b).filter (fun p => b.sees p.start)

/-- Window terms ahead (R138): windows on route entries under the body and on the run ahead, near edge not behind
the front end and no farther than the PTL. -/
def State.windowsAhead (s : State) (b : Body) (ptl : Nat) : List (Cause × Int) :=
  (s.routeUnder b ++ s.runAhead b).flatMap (fun p => ((s.map.windowsOn p.seg).filter (fun w =>
      let d := (s.placeWindow p w).1 - b.front
      decide (0 ≤ d) && decide (d ≤ ptl))).map (fun w =>
        (Cause.window, (s.braking w.ceiling ((s.placeWindow p w).1 - b.front) : Int))))

/-- Class terms ahead (R137). -/
def State.classesAhead (s : State) (b : Body) (ptl : Nat) : List (Cause × Int) :=
  ((s.runAhead b).filter (fun p => decide (p.start - b.front ≤ ptl))).map (fun p =>
    (Cause.classCeiling, (s.braking (s.ceilingOf p.seg) (p.start - b.front) : Int)))

/-- The terms of the base forward ceiling in the order of R145. -/
def State.aheadTerms (s : State) (b : Body) (ptl : Cause × Nat) : List (Cause × Int) :=
  s.windowsUnder b ++ s.windowsAhead b ptl.2 ++ s.classesUnder b ++ s.classesAhead b ptl.2 ++
  [(ptl.1, (s.braking 0 ptl.2 : Int)), (.vmax, (s.vmax : Int))]

/-- The terms of the ceiling while BACK in the order of R145; the creep term is named QUALITY (R144). -/
def State.backTerms (s : State) (b : Body) (lim : Cause × Nat) : List (Cause × Int) :=
  s.windowsUnder b ++ s.classesUnder b ++ [(lim.1, (s.braking 0 lim.2 : Int)), (.quality, (s.creep : Int))]

/-- The gain the load setting chooses (R139). -/
def State.gain (s : State) : Nat :=
  match s.load with
  | .empty => s.tuning 41
  | .laden => s.tuning 42

/-- The scaled ceiling (R139). -/
def State.scaled (s : State) (base : Int) : Int := min base (max 0 (base * s.gain / 128 + s.tuningInt 43))

/-- The ceiling code (R146). -/
def State.codeOf (s : State) (ceiling : Nat) : Nat := ceiling * 255 / s.vmax

/-- The record of a station held in place: no ceiling, cause HOLD (R142, R144, R145). -/
def heldRecord (d : Sense) (ptl rearward : Nat) : Guidance :=
  { direction := d, ptl := ptl, rearward := rearward, permit := false, ceiling := 0, cause := .hold, code := 0 }

/-- The record with a true permit. -/
def State.movingRecord (s : State) (d : Sense) (ptl rearward : Nat) (cause : Cause) (ceiling : Int) : Guidance :=
  { direction := d, ptl := ptl, rearward := rearward, permit := true, ceiling := ceiling.toNat, cause := cause,
    code := s.codeOf ceiling.toNat }

/-- Ceiling and cause while AHEAD (R137 to R141, R145). -/
def State.aheadCeiling (s : State) (b : Body) (ptl : Cause × Nat) : Cause × Int :=
  match leastTerm (s.aheadTerms b ptl) with
  | none => (.hold, 0)
  | some t =>
    let sc := s.scaled t.2
    if s.pos.quality = .doubtful ∧ (s.creep : Int) < sc then (.quality, s.creep)
    else if sc < t.2 then (.load, sc) else t

/-- Ceiling and cause while BACK (R144, R145). -/
def State.backCeiling (s : State) (b : Body) (lim : Cause × Nat) : Cause × Int :=
  match leastTerm (s.backTerms b lim) with
  | none => (.hold, 0)
  | some t => t

/-- The guidance record of the inputs as they stand (R132 to R146). -/
def State.guidance (s : State) : Guidance :=
  match s.body with
  | none => heldRecord s.sense 0 0
  | some b =>
    let p := s.ptl b
    let r := s.rearward b
    let run := s.ctl.state == .run
    match s.sense with
    | .ahead =>
      if run && decide (0 < p.2) then
        let c := s.aheadCeiling b p
        s.movingRecord .ahead p.2 r.2 c.1 c.2
      else heldRecord .ahead p.2 r.2
    | .back =>
      if run && decide (0 < r.2) then
        let c := s.backCeiling b r
        s.movingRecord .back p.2 r.2 c.1 c.2
      else heldRecord .back p.2 r.2

/-! ### The Line Driver's hand-over (R149, R150, R152) -/

/-- The width of a code, in microseconds (R151). -/
def widthOf (code : Nat) : Nat := code * Config.periodLength / 255

/-- A hand-over of permit and code at a period phase. -/
def LineDriver.take (phase : Nat) (permit : Bool) (code : Nat) (l : LineDriver) : LineDriver :=
  let force := if permit then min code l.code else 0
  { l with
    permit := permit, pendingCode := if permit then code else 0, code := force,
    high := l.high && !(decide (force < l.code) && decide (widthOf force ≤ phase)) }

/-- The Line Driver with the pair last handed to it and whether the permit level has fallen. -/
structure Drive where
  last : Bool × Nat
  line : LineDriver
  fell : Bool
  deriving DecidableEq, Repr

/-- A recomputation hands its pair over when it differs from the last (R133); a fall raises PERMIT_DROP (R150). -/
def Drive.deliver (phase : Nat) (g : Guidance) (d : Drive) : Drive :=
  if d.last = (g.permit, g.code) then d
  else { last := (g.permit, g.code), line := d.line.take phase g.permit g.code, fell := d.fell || (d.line.permit && !g.permit) }

/-- The drive as it stands. -/
def State.drive (s : State) : Drive := { last := (s.guide.permit, s.guide.code), line := s.line, fell := false }

/-- Put a new record and what its hand-over did into the state. -/
def State.setGuide (g : Guidance) (d : Drive) (s : State) : State :=
  { s with guide := g, line := d.line }.raiseIf d.fell .permitDrop

/-- One recomputation (R133). -/
def State.recompute (s : State) : State := s.setGuide s.guidance (s.drive.deliver s.phase s.guidance)

/-- An event that the Guidance Unit hears of itself and that also changes the claim list by k: it may recompute
before or after the Claim Unit's hand-over (R133). Where that makes a difference to the lines, a free value
decides (log 7). -/
def State.guided (k : State → State) (s : State) : State :=
  let t := k s
  let direct := t.drive.deliver t.phase t.guidance
  let early := (s.drive.deliver s.phase s.guidance).deliver t.phase t.guidance
  if early = direct then t.setGuide t.guidance direct
  else if Config.guidanceFirst t.choices then { t with choices := t.choices + 1 }.setGuide t.guidance early
  else { t with choices := t.choices + 1 }.setGuide t.guidance direct

/-- A Claim Unit event that only the hand-over of the list tells the Guidance Unit of (R99, R133). -/
def State.claimOnly (own : State → State × List Claim) (exam : Bool) (s : State) : State :=
  let r := claimEvent own exam s
  if r.2 then r.1.recompute else r.1

/-! ### Reports (R27, R51) -/

/-- A position change reported to the Route Queue, the Claim Unit and the Guidance Unit (R27, R55, R56). The trim
test comes after the Claim Unit's event (log 34, DESIGN CHOICE). -/
def State.reportPosition (s : State) : State :=
  s.guided (fun t => ((claimEvent ownNothing true t.testArrival).1).trim)

/-- A route change reported to the Claim Unit, the Guidance Unit and the arrival test (R51, R110). -/
def State.reportRoute (s : State) : State := s.guided (fun t => (claimEvent ownRouteChange true t.testArrival).1)

/-- A bay change reported to the Claim Unit and the Guidance Unit (R128). -/
def State.reportBays (s : State) : State := s.guided (fun t => (claimEvent ownNothing true t).1)

end Sys2Proof.Machine
end

