-- ==== Sys2Proof/Machine/Lines.lean ====
section
/-! DEFINITION. Lines.lean: the ceiling line's own events (R151). -/

namespace Sys2Proof.Machine

/-- A period starts (R151): 10,000 us after the last, or at the last period boundary that time has passed (log 21). -/
def State.periodBegin (s : State) : State :=
  let s1 := s.reach (s.line.periodStart + Config.periodLength)
  { s1 with line := { s1.line with
      periodStart := s1.clock - (s1.clock - s1.line.periodStart) % Config.periodLength,
      code := s1.line.pendingCode, high := decide (0 < s1.line.pendingCode) } }

/-- The period phase reaches the width of the code in force (R151); a width as long as the period falls only at
its end, where the next period starts (log 21). -/
def State.widthEnd (s : State) : State :=
  if s.line.high && decide (widthOf s.line.code < Config.periodLength) then
    let s1 := s.reach (s.line.periodStart + widthOf s.line.code)
    { s1 with line := { s1.line with high := false } }
  else s

end Sys2Proof.Machine
end

