-- ==== Sys2Proof/Machine/PositionKeeping.lean ====
section
/-! DEFINITION. PositionKeeping.lean: the Odometry Counter and the Position Unit (chapter 2), with SET POSITION
(R39, R53, R112) and STILL CONTROL (R37). -/

namespace Sys2Proof.Machine

/-- An owner's answer to a command handed over: its new state, and its reply unless the reply comes later (R165). -/
abbrev Answer := State × Option Reply

/-- An answer that changes nothing in the owning block (R169). -/
def State.refuse (s : State) (st : Status) : Answer := (s, some (Reply.plain st))

/-! ### Moving the centre (R20, R24, R25, R35) -/

/-- The lengths of the route entries. -/
def State.entryLengths (s : State) : List Nat := s.route.entries.map (fun e => s.map.lengthOf e.seg)

/-- Carry along the route (R24). -/
def carryAhead (lens : List Nat) : Nat → Nat → Int → Nat × Int
  | 0, i, off => (i, off)
  | n + 1, i, off =>
    if off > lens.getD i 0 ∧ i + 1 < lens.length then carryAhead lens n (i + 1) (off - lens.getD i 0) else (i, off)

/-- Carry against the route (R24). -/
def carryBack (lens : List Nat) : Nat → Nat → Int → Nat × Int
  | 0, i, off => (i, off)
  | n + 1, i, off => if off < 0 ∧ 0 < i then carryBack lens n (i - 1) (off + lens.getD (i - 1) 0) else (i, off)

/-- Where a movement ends: the entry, the offset clamped to it, and the part lost beyond the boundary (R24, R25). -/
structure Landing where
  index : Nat
  offset : Nat
  lost : Nat
  deriving DecidableEq, Repr

/-- Move an offset by cm in a sense, carrying and clamping (R24, R25). -/
def landing (lens : List Nat) (sense : Sense) (i off cm : Nat) : Landing :=
  match sense with
  | .ahead =>
    let c := carryAhead lens lens.length i ((off : Int) + cm)
    { index := c.1, offset := (min c.2 (lens.getD c.1 0 : Nat)).toNat, lost := (c.2 - (lens.getD c.1 0 : Nat)).toNat }
  | .back =>
    let c := carryBack lens lens.length i ((off : Int) - cm)
    { index := c.1, offset := c.2.toNat, lost := (-c.2).toNat }

/-- Quality falls from GOOD to DOUBTFUL, raising QUALITY_DROP (R25, R33, R35). -/
def State.dropQuality (c : Bool) (s : State) : State :=
  if c && s.pos.quality == .good then { s with pos := { s.pos with quality := .doubtful } }.raise .qualityDrop else s

/-- Move the centre by whole centimetres of a credit in the travel sense (R20, R24, R25, R35). -/
def State.moveCentre (cm : Nat) (s : State) : State :=
  match s.pos.index with
  | none => s
  | some i =>
    let l := landing s.entryLengths s.sense i s.pos.offset cm
    let since := sat16 (s.pos.sinceFix + (cm - l.lost))
    let s1 := { s with
      pos := { s.pos with index := some l.index, offset := l.offset, sinceFix := since },
      odo := { s.odo with residue := if 0 < l.lost then 0 else s.odo.residue } }
    (s1.raiseIf (decide (0 < l.lost)) .overrun).dropQuality (decide (0 < l.lost) || decide (s.fixGap < since))

/-- The distance a credit turns out, in hundredths of a centimetre (R20). -/
def State.creditHundredths (s : State) : Nat := s.odo.residue + s.odo.uncredited * s.pulseLength

/-- A credit (R20). -/
def State.credit (s : State) : State :=
  match s.pos.index with
  | none => { s with odo := { s.odo with uncredited := 0, residue := 0 } }
  | some _ =>
    let s1 := { s with odo := { s.odo with uncredited := 0, residue := s.creditHundredths % 100 } }
    if s.creditHundredths / 100 = 0 then s1 else s1.moveCentre (s.creditHundredths / 100)

/-- The fields of the position record a report carries (R27). -/
def Position.reported (p : Position) : Option Nat × Nat × Quality × Motion := (p.index, p.offset, p.quality, p.motion)

/-- Report when a change has been made to the record (R27): one report for each credit or fix (R24). -/
def State.reportIf (changed : Bool) (s : State) : State := if changed then s.reportPosition else s

/-! ### Motion (R36, R37) -/

/-- The computed motion (R36). -/
def State.computedMotion (s : State) : Motion := if s.stillLimit ≤ s.pos.stillCount then .still else .moving

/-- The effective motion of the still mode (R37). -/
def State.effectiveMotion (s : State) : Motion :=
  if s.pos.force then .still else if s.pos.detect then s.computedMotion else .moving

def State.updateMotion (s : State) : State := { s with pos := { s.pos with motion := s.effectiveMotion } }

/-- The effective motion follows what decides it, and a change of it is reported (R27, R37). -/
def State.followMotion (s : State) : State :=
  let t := s.updateMotion
  t.reportIf (decide (t.pos.motion ≠ s.pos.motion))

/-! ### The race (R18, R19, R38) -/

/-- A wheel pulse (R18); the counts hold at their ranges' ends (log 15). -/
def State.wheelPulse (s : State) : State :=
  { s with odo := { s.odo with
      racePulses := min s.odo.racePulseLimit (s.odo.racePulses + 1), uncredited := min 255 (s.odo.uncredited + 1) } }

/-- The speed of a race (R19). -/
def raceSpeed (pulses pulseLength ticks : Nat) : Nat := min 2000 (pulses * pulseLength * 100 / max 1 ticks)

/-- A race ended by its tick limit with few enough pulses is a slow race (R19). -/
def State.slowRace (s : State) : Bool :=
  decide (s.odo.raceTickLimit ≤ s.raceTicks) && decide (s.odo.racePulses ≤ s.stillThreshold)

/-- The still count after a race (R36). -/
def State.stillCountNext (s : State) : Nat := if s.slowRace then min 15 (s.pos.stillCount + 1) else 0

/-- Begin a new race with the limits in force (R19). -/
def State.newRace (s : State) : State :=
  { s with odo := { s.odo with raceStart := s.clock, racePulses := 0, raceTickLimit := s.tuning 1, racePulseLimit := s.tuning 2 } }

/-- Whether a race's uncredited pulses are discarded (R38). -/
def State.discards (s : State) : Bool := s.pos.motion == .still && decide (s.odo.racePulses ≤ s.stillThreshold)

/-- The race ends: by its pulse limit now, or by its tick limit when that is reached (R19). -/
def State.raceEnd (s : State) : State :=
  let s0 := if s.odo.racePulseLimit ≤ s.odo.racePulses then s else s.reach s.odo.ticksDue
  let s1 := { s0 with
    odo := { s0.odo with speed := raceSpeed s0.odo.racePulses s0.pulseLength s0.raceTicks },
    pos := { s0.pos with stillCount := s0.stillCountNext } }
  let s2 := s1.updateMotion
  let s3 := if s2.discards then { s2 with odo := { s2.odo with uncredited := 0 } } else s2.credit
  s3.newRace.reportIf (decide (s3.pos.reported ≠ s.pos.reported))

/-! ### Direction (R22, R153) -/

/-- The direction of a level of WDIR (R153). -/
def directionOf (high : Bool) : Direction := if high then .forward else .reverse

/-- A level that has stood for its stability time is taken (R22). -/
def State.directionChange (s : State) : State :=
  match s.odo.directionDue with
  | none => s
  | some due =>
    let s1 := (s.reach due).credit
    { s1 with odo := { s1.odo with residue := 0, direction := directionOf s.pins.wdirHigh, directionDue := none } }.reportPosition

/-- The level of WDIR inverted (R153). -/
def State.flipWdir (s : State) : State := { s with pins := { s.pins with wdirHigh := !s.pins.wdirHigh } }

/-- The stability time starts where the level differs from the direction in force, or stops where it has returned
(R153). -/
def State.watchDirection (s : State) : State :=
  let due := if directionOf s.pins.wdirHigh = s.odo.direction then none else some (s.clock + Config.directionStable)
  { s with odo := { s.odo with directionDue := due } }

/-- The level before this one has stood for its whole stability time. -/
def State.directionStood (s : State) : Bool :=
  match s.odo.directionDue with
  | none => false
  | some due => decide (due ≤ s.clock)

/-- WDIR changes level (R153). A level that has stood for its time is one direction change first, even where its own row
comes late (log 3); one that returns earlier makes no change. -/
def State.directionLevel (s : State) : State :=
  if s.pins.resetHeld then s.flipWdir
  else (if s.directionStood then s.directionChange else s).flipWdir.watchDirection

/-! ### Tag fixes (R28 to R34) -/

/-- Whether span a is nearer the current index than b, the one ahead of two equally near (R29). -/
def nearerSpan (cur : Nat) (a b : Span) : Bool :=
  let da := (a.index : Int) - cur
  let db := (b.index : Int) - cur
  decide (da.natAbs < db.natAbs) || (da.natAbs == db.natAbs && decide (db < da))

/-- The nearest of the spans. -/
def nearestSpan (cur : Nat) : List Span → Option Span
  | [] => none
  | p :: rest =>
    match nearestSpan cur rest with
    | none => some p
    | some q => if nearerSpan cur q p then some q else some p

/-- The window entry the tag's segment lies on (R29). -/
def State.windowEntry (s : State) (seg : Nat) : Option Span :=
  match s.pos.index with
  | none => (s.spans.filter (·.seg == seg)).head?
  | some cur => nearestSpan cur (s.spans.filter (fun p => p.seg == seg && decide (p.index ≤ cur + 2)))

/-- A tag's route distance on a window entry (R29). -/
def State.tagDistance (s : State) (p : Span) (t : Tag) : Int :=
  match p.sign with
  | .plus => p.start + t.offset
  | .minus => p.start + ((s.map.lengthOf p.seg : Int) - t.offset)

/-- The fix position, or out of window (R29). -/
def State.fixPosition (s : State) (t : Tag) (off : Int) : Option Int :=
  match s.windowEntry t.segment with
  | none => none
  | some p =>
    let fix := match s.ctl.orientation with
      | .along => s.tagDistance p t + off
      | .against => s.tagDistance p t - off
    if 0 ≤ fix ∧ fix ≤ s.routeLength then some fix else none

/-- Accept a fix: the centre goes to the fix position (R29, R30, R32). -/
def State.acceptFix (fix : Int) (s : State) : State :=
  match s.spans.find? (fun p => decide (fix ≤ p.stop)) with
  | none => s
  | some p =>
    { s with
      pos := { s.pos with index := some p.index, offset := (fix - p.start).toNat, quality := .good, rejects := 0,
                          sinceFix := 0, lastError := none, accepted := sat16 (s.pos.accepted + 1) },
      odo := { s.odo with residue := 0 } }

/-- A cored fix leaves the estimate (R31). -/
def State.coreFix (s : State) : State :=
  { s with pos := { s.pos with quality := .good, rejects := 0, sinceFix := 0, lastError := none,
                               cored := sat16 (s.pos.cored + 1) } }

/-- A rejected fix, with its error unless it was out of window (R29, R33). -/
def State.rejectFix (err : Option Int) (s : State) : State :=
  let s1 := { s with pos := { s.pos with
    rejected := sat16 (s.pos.rejected + 1), rejects := min 255 (s.pos.rejects + 1),
    lastError := match err with
      | some e => some e
      | none => s.pos.lastError } }
  s1.dropQuality (decide (3 ≤ s1.pos.rejects))

/-- Whether an outlier is a confirmed jump (R34). -/
def State.confirms (s : State) (err : Int) : Bool :=
  s.pos.quality == .doubtful && (match s.pos.lastError with
    | some last => decide ((err - last).natAbs ≤ s.confirmTolerance)
    | none => false)

/-- Decide a located fix by quality and error (R30 to R34). -/
def State.decideFix (fix : Int) (s : State) : State :=
  match s.centre with
  | none => s.acceptFix fix
  | some c =>
    let err := fix - c
    if err.natAbs ≤ s.coring then s.coreFix
    else if err.natAbs ≤ s.jumpLimit then s.acceptFix fix
    else if s.confirms err then s.acceptFix fix
    else s.rejectFix (some err)

/-- The credit of a read, reported where it changes the record (R24, R28 step 1). -/
def State.creditReported (s : State) : State := s.credit.reportIf (decide (s.credit.pos.reported ≠ s.pos.reported))

/-- The fix of a read, from the tag's lookup on, reported where it changes the record (R28 steps 2 to 4). -/
def State.takeFix (tagId : Nat) (off : Int) (s : State) : State :=
  match s.map.tag tagId with
  | none => { s with pos := { s.pos with unknownTags := sat16 (s.pos.unknownTags + 1) } }
  | some t =>
    let s1 := match s.fixPosition t off with
      | some fix => s.decideFix fix
      | none => s.rejectFix none
    s1.reportIf (decide (s1.pos.reported ≠ s.pos.reported))

/-- A complete read (R28). The credit's report is delivered before the tag is located (log 16, DESIGN CHOICE). -/
def State.takeRead (tagId : Nat) (off : Int) (s : State) : State := s.creditReported.takeFix tagId off

/-! ### The reader line (R153, R178) -/

def State.setReader (r : Option OpenRead) (s : State) : State := { s with pins := { s.pins with reader := r } }

/-- The gap after a byte of an open read has run out before now. -/
def State.gapPassed (s : State) (r : OpenRead) : Bool := decide (r.gapEnd < s.clock)

/-- An open read with the given bytes after its lead byte, its gap started now. -/
def State.readWith (bytes : List Byte) (s : State) : State :=
  s.setReader (some { bytes := bytes, gapEnd := s.clock + Config.readerGapLimit })

/-- A byte while no read is open: A5h opens one (R178). -/
def State.hunt (b : Byte) (s : State) : State := if b = 0xA5#8 then s.readWith [] else s.setReader none

/-- The five bytes of a complete read: taken by the Position Unit out of CONFIG, or disregarded (R28, R153). -/
def State.endRead (bytes : List Byte) (s : State) : State :=
  match bytes with
  | [b1, b2, b3, b4, b5] =>
    match readTag b1 b2 b3 b4 b5 with
    | some (tagId, off) => if s.ctl.state = .config then s else s.takeRead tagId off
    | none => s
  | _ => s

/-- A byte on the reader line: hunted, joined to the open read, or the last of it; a byte after a gap too long
finds the line hunting again (R153, R178). -/
def State.readerByte (b : Byte) (s : State) : State :=
  match s.pins.reader with
  | none => s.hunt b
  | some r =>
    if s.gapPassed r then s.hunt b
    else if r.bytes.length < 4 then s.readWith (r.bytes ++ [b])
    else (s.setReader none).endRead (r.bytes ++ [b])

/-- The five bytes after the lead byte, one after the other (R178; log 20). -/
def State.tagRead (b1 b2 b3 b4 b5 : Byte) (s : State) : State := [b1, b2, b3, b4, b5].foldl (fun t b => t.readerByte b) s

/-- The gap between bytes becomes more than 5 ms: the read is disregarded (R153). -/
def State.gapTimeout (s : State) : State :=
  match s.pins.reader with
  | none => s
  | some r => (s.reach (r.gapEnd + 1)).setReader none

/-! ### SET POSITION (R39) and STILL CONTROL (R37) -/

/-- The sign a parameter names (R39, 03). -/
def signOf (n : Nat) : Sign := if n = 0 then .plus else .minus

/-- The part's own records after a SET POSITION taken (R39, R53), before the Claim Unit's request. -/
def State.seed (seg off : Nat) (sign : Sign) (s : State) : State :=
  let len := s.map.lengthOf seg
  let plus := min off len
  { s with
    route := { entries := [{ seg := seg, sign := sign }], stop := none, armed := false },
    pos := { s.pos with
      index := some 0, quality := .doubtful, rejects := 0, sinceFix := 0, lastError := none,
      formerOffset := off, formerSign := sign,
      offset := match sign with
        | .plus => plus
        | .minus => len - plus },
    odo := { s.odo with residue := 0, uncredited := 0 } }

/-- SET POSITION at its owners: segment, offset, sign; missing parameters keep their former values (R39). Which of
the R27 report and the Claim Unit's hand-over the Guidance Unit takes first is the free value of log 7 (R133). -/
def ownSetPosition (vals : List Nat) (s : State) : Answer :=
  match vals with
  | [] => (s, some (Reply.broken 0 []))
  | seg :: rest =>
    let off := rest.getD 0 s.pos.formerOffset
    let sg := rest.getD 1 s.pos.formerSign.code
    if !s.map.present seg then s.refuse .refusedValue
    else if 1 < sg then s.refuse .refusedValue
    else
      let t := (s.seed seg off (signOf sg)).guided (fun u => (claimEvent ownSeed true u).1)
      (t, some (if rest.length < 2 then Reply.broken vals.length []
        else Reply.plain (if s.map.lengthOf seg < off then .doneClamped else .done)))

/-- Set the still mode; a change of the effective motion is reported (R37). -/
def State.setStill (force detect : Bool) (s : State) : State :=
  { s with pos := { s.pos with force := force, detect := detect } }.followMotion

/-- STILL CONTROL (R37). -/
def ownStillControl (vals : List Nat) (s : State) : Answer :=
  match vals with
  | [] => (s, some (Reply.broken 0 []))
  | [f] => if 1 < f then s.refuse .refusedValue else (s.setStill (f == 1) s.pos.detect, some (Reply.broken 1 []))
  | f :: d :: _ =>
    if 1 < f ∨ 1 < d then s.refuse .refusedValue else (s.setStill (f == 1) (d == 1), some (Reply.plain .done))

end Sys2Proof.Machine
end

