-- ==== Sys2Proof/Machine/Bays.lean ====
section
/-! DEFINITION. Bays.lean: the Bay Table (chapter 7): crane notices, silence, BAY CONTROL, BAY_HOLD. -/

namespace Sys2Proof.Machine

/-- Every entry of the table in table order (R120). -/
def BayTable.entries (t : BayTable) : List Bay := t.cranes.flatMap (·.bays)

/-- The segments of the entries that pass out of OPEN between two tables (R129). -/
def closedSegments (old new : List Bay) : List Nat :=
  ((old.zip new).filter (fun p => p.1.state == .opened && p.2.state != .opened)).map (fun p => p.2.segment)

/-- The segment is one the carrier has taken or stands on (R129). -/
def State.takenOrUnder (s : State) (seg : Nat) : Bool :=
  seg != Config.noSegment &&
  ((heldIds s.claim.list).contains seg ||
   (match s.body with
    | some b => s.spans.any (fun p => p.seg == seg && b.on p.start p.stop)
    | none => false))

/-- One event of the Bay Table: BAY_HOLD for a taken bay that leaves OPEN (R129), and the report of the states that
have changed (R128). -/
def State.bayEvent (t : BayTable) (s : State) : State :=
  let s1 := { s with bays := t }.raiseIf ((closedSegments s.bays.entries t.entries).any s.takenOrUnder) .bayHold
  if t.entries.map (·.state) = s.bays.entries.map (·.state) then s1 else s1.reportBays

/-- Change the entries of one crane, bay by bay. -/
def Crane.mapBays (f : Nat → Bay → Bay) (c : Crane) : Crane := { c with bays := c.bays.mapIdx f }

/-- Change one crane of the table. -/
def BayTable.onCrane (id : Nat) (f : Crane → Crane) (t : BayTable) : BayTable :=
  { t with cranes := t.cranes.map (fun c => if c.id = id then f c else c) }

/-- An entry with no current word (R124, R127). -/
def Bay.toUnknown (b : Bay) : Bay := { b with state := .unknown, source := .snoop }

/-- An entry under its override (R126). -/
def Bay.toOverride (b : Bay) : Bay := { b with state := if b.overrideOpen then .opened else .shut, source := .overridden }

/-- A CRANE notice (R122, R123). -/
def State.craneNotice (id : Nat) (states : List BayState) (s : State) : State :=
  let t := { s.bays with notices := sat16 (s.bays.notices + 1) }
  if t.cranes.any (·.id == id) then
    s.bayEvent (t.onCrane id (fun c =>
      let c' := { c with heardAt := some s.clock, silent := false }
      if t.snoop then c'.mapBays (fun i b => { b with state := states.getD i b.state, source := .snoop }) else c'))
  else { s with bays := { t with unlisted := sat16 (t.unlisted + 1) } }

/-- A crane's silence reaches the crane silence time: once for each run of silence (R124). -/
def State.craneSilenceExpiry (id : Nat) (s : State) : State :=
  if s.ctl.state = .config then s
  else match s.bays.cranes.find? (·.id == id) with
    | some c => match c.heardAt, c.silent with
      | some t, false =>
        let s1 := s.reach (t + 1000 * s.craneSilence)
        s1.bayEvent (s1.bays.onCrane id (fun c =>
          let c' := { c with silent := true }
          if s1.bays.snoop then c'.mapBays (fun _ b => if b.state = .unknown then b else b.toUnknown) else c'))
      | _, _ => s
    | none => s

/-- An override after its parameter: 0 SHUT, 1 OPEN, 2 keep (R125). -/
def Bay.withOverride (v : Option Nat) (b : Bay) : Bay :=
  match v with
  | some 0 => { b with overrideOpen := false }
  | some 1 => { b with overrideOpen := true }
  | _ => b

/-- The first step of BAY CONTROL: the overrides of the named crane (R125). -/
def BayTable.setOverrides (crane : Nat) (ov : List Nat) (t : BayTable) : BayTable :=
  t.onCrane crane (Crane.mapBays (fun i b => b.withOverride ov[i]?))

/-- Every entry of every listed crane. -/
def BayTable.onEvery (f : Bay → Bay) (t : BayTable) : BayTable :=
  { t with cranes := t.cranes.map (Crane.mapBays (fun _ b => f b)) }

/-- The second step of BAY CONTROL: the snoop switch (R126, R127). -/
def BayTable.setSnoop (crane : Nat) (on : Bool) (t : BayTable) : BayTable :=
  match t.snoop, on with
  | true, true => t
  | true, false => { t.onEvery Bay.toOverride with snoop := false }
  | false, false => t.onCrane crane (Crane.mapBays (fun _ b => b.toOverride))
  | false, true => { t.onEvery Bay.toUnknown with snoop := true }

/-- BAY CONTROL's checks on the values received (R125). -/
def State.bayValuesOk (s : State) (snoop crane : Nat) (ov : List Nat) : Bool :=
  decide (snoop ≤ 1) && (crane == 0 || s.map.cranes.contains crane) && ov.all (fun v => decide (v ≤ 2))

/-- BAY CONTROL (R125). A broken command is carried out with the parameters received. -/
def ownBayControl (vals : List Nat) (s : State) : Answer :=
  match vals with
  | [] => (s, some (Reply.broken 0 []))
  | snoop :: rest =>
    let crane := rest.getD 0 0
    let ov := rest.drop 1
    if s.bayValuesOk snoop crane ov then
      (s.bayEvent ((s.bays.setOverrides crane ov).setSnoop crane (snoop == 1)),
       some (if vals.length < 6 then Reply.broken vals.length [] else Reply.plain .done))
    else s.refuse .refusedValue

end Sys2Proof.Machine
end

