-- ==== Sys2Proof/Machine/Peers.lean ====
section
/-! DEFINITION. Peers.lean: the Peer View (chapter 5): taking a notice, aging, saturation, CLEAR PEER. Each report
is an event of the Claim Unit of its own, made when the table has been updated (R93). -/

namespace Sys2Proof.Machine

def State.setPeers (v : PeerView) (s : State) : State := { s with peers := v }

/-- The entry of a station (R78). -/
def PeerView.find (v : PeerView) (id : Nat) : Option Peer := v.entries.find? (·.id == id)

/-- Write a station's entry where it stands. -/
def PeerView.update (p : Peer) (v : PeerView) : PeerView :=
  { v with entries := v.entries.map (fun q => if q.id = p.id then p else q) }

/-- Take a station's entry out; later entries move down (R78). -/
def PeerView.without (id : Nat) (v : PeerView) : PeerView := { v with entries := v.entries.filter (·.id != id) }

/-- The entry an accepted POSITION notice makes (R79, R83, R85). -/
def PositionNotice.entry (n : PositionNotice) (now missed : Nat) : Peer :=
  { id := n.id, status := .fresh, sequence := n.sequence, heardAt := now, missed := missed, still := n.still,
    laden := n.laden, joining := n.joining, prec := n.prec, segment := n.segment, offset := n.offset, sign := n.sign,
    speed := n.speed, held := n.held, wanted := n.wanted }

/-! ### Reports (R93) -/

/-- An accepted notice reported. -/
def State.reportAccepted (p : Peer) (s : State) : State := s.claimOnly (ownAccepted p) true

/-- A status change reported. -/
def State.reportStatus (s : State) : State := s.claimOnly ownNothing true

/-- A removal reported. -/
def State.reportRemoval (id : Nat) (s : State) : State := s.claimOnly (ownRemoval id) true

/-- The end of saturation reported, when there was one (R90). -/
def State.reportSaturationEnd (was : Bool) (s : State) : State := if was then s.claimOnly (ownSaturation false) true else s

/-! ### The sequence test (R82) -/

/-- The distance behind, modulo 256. -/
def behind (last seq : Nat) : Nat := (last + 256 - seq % 256) % 256

/-- The distance ahead, modulo 256. -/
def ahead (last seq : Nat) : Nat := (seq + 256 - last % 256) % 256

/-- The missed count of an accepted notice, or none for a stale or duplicate one (R82). -/
def acceptMissed (p : Peer) (fresh : Bool) (seq : Nat) : Option Nat :=
  if fresh then some p.missed
  else if 128 ≤ behind p.sequence seq then some (sat16 (p.missed + (ahead p.sequence seq - 1)))
  else none

/-- A stale or duplicate notice is counted (R76, R82). -/
def State.countStale (s : State) : State := { s with link := { s.link with stale := sat16 (s.link.stale + 1) } }

/-! ### Removal, entry, eviction (R84, R85, R88, R89) -/

/-- Remove a known station's entry, ending saturation (R84, R90). -/
def State.removePeer (id : Nat) (s : State) : State :=
  (((s.setPeers { s.peers.without id with saturation := none }).reportRemoval id).reportSaturationEnd s.peers.saturation.isSome)

/-- An eviction candidate (R88). -/
def Peer.evictable (p : Peer) : Bool := p.status == .lost && p.held.isEmpty

/-- The candidate with the greatest time, the lowest index among equals (R88). -/
def State.candidate (s : State) : List Peer → Option Peer
  | [] => none
  | p :: rest =>
    match s.candidate rest with
    | none => if p.evictable then some p else none
    | some q => if p.evictable && decide (s.peerTime q ≤ s.peerTime p) then some p else some q

/-- A notice that cannot be entered (R89). -/
def State.unenterable (s : State) : State :=
  let s1 := s.setPeers { s.peers with saturation := some (s.after s.lostTime) }
  if s.peers.saturation.isSome then s1 else (s1.raise .saturated).claimOnly (ownSaturation true) false

/-- A POSITION notice from an unknown station (R85, R88, R89, R90). The end of saturation is reported after the entry that
ends it (R93; log 36, DEDUCED). -/
def State.enterPeer (n : PositionNotice) (s : State) : State :=
  let p := n.entry s.clock 0
  if s.peers.entries.length < Config.peerCapacity then
    (s.setPeers { s.peers with entries := s.peers.entries ++ [p] }).reportAccepted p
  else match s.candidate s.peers.entries with
    | some out =>
      (((s.setPeers { entries := (s.peers.without out.id).entries ++ [p], saturation := none }).reportRemoval out.id).reportAccepted
        p).reportSaturationEnd s.peers.saturation.isSome
    | none => s.unenterable

/-! ### Taking a notice (R80) -/

/-- An ID clash (R81). -/
def State.takeClash (s : State) : State := (s.raise .idClash).claimOnly ownClash false

/-- A POSITION notice (R80, R83). -/
def State.takePosition (n : PositionNotice) (s : State) : State :=
  if n.id = s.ctl.id then s.takeClash
  else match s.peers.find n.id with
    | none => s.enterPeer n
    | some p =>
      match acceptMissed p n.fresh n.sequence with
      | none => s.countStale
      | some m => (s.setPeers (s.peers.update (n.entry s.clock m))).reportAccepted (n.entry s.clock m)

/-- A LEAVE notice (R80, R84). -/
def State.takeLeave (id seq : Nat) (s : State) : State :=
  if id = s.ctl.id then s.takeClash
  else match s.peers.find id with
    | none => s
    | some p =>
      match acceptMissed p false seq with
      | none => s.countStale
      | some _ => s.removePeer id

/-! ### Aging (R86) -/

/-- A peer's status, set. -/
def Peer.withStatus (st : PeerStatus) (p : Peer) : Peer := { p with status := st }

/-- A status change, reported. -/
def State.agePeer (p : Peer) (st : PeerStatus) (s : State) : State :=
  (s.setPeers (s.peers.update (p.withStatus st))).reportStatus

/-- The quiet time is reached: FRESH to QUIET, when the quiet time lies below the lost time (R86). -/
def State.quietTimeReached (id : Nat) (s : State) : State :=
  match s.peers.find id with
  | none => s
  | some p =>
    if p.status = .fresh ∧ s.quietTime < s.lostTime then
      (s.reach (p.heardAt + 1000 * s.quietTime)).agePeer p .quiet
    else s

/-- QUIET or FRESH to LOST, with PEER_LOST (R86). -/
def State.losePeer (p : Peer) (s : State) : State := (s.raise .peerLost).agePeer p .lost

/-- The lost time is reached. A FRESH entry whose quiet time lies below the lost time passes through QUIET
first (R86; log 22). -/
def State.lostTimeReached (id : Nat) (s : State) : State :=
  match s.peers.find id with
  | none => s
  | some p =>
    match p.status with
    | .lost => s
    | .quiet => (s.reach (p.heardAt + 1000 * s.lostTime)).losePeer p
    | .fresh => ((s.quietTimeReached id).reach (p.heardAt + 1000 * s.lostTime)).losePeer p

/-- The saturation timer runs out (R90). -/
def State.saturationExpiry (s : State) : State :=
  match s.peers.saturation with
  | none => s
  | some due => ((s.reach due).setPeers { s.peers with saturation := none }).reportSaturationEnd true

/-! ### CLEAR PEER (R91) -/

/-- CLEAR PEER at its owner. -/
def ownClearPeer (vals : List Nat) (s : State) : Answer :=
  match vals with
  | [] => (s, some (Reply.broken 0 []))
  | id :: _ =>
    if (s.peers.find id).isSome then (s.removePeer id, some (Reply.plain .done)) else s.refuse .refusedValue

end Sys2Proof.Machine
end

