-- ==== Sys2Proof/Machine/Link.lean ====
section
/-! DEFINITION. Link.lean: the Link Port's and the Notice Scheduler's events (R59 to R75). -/

namespace Sys2Proof.Machine

/-! ### Reception (R63, R64, R65) -/

/-- A frame that fails its check or its form is dropped and counted (R63). -/
def LinkPort.bad (l : LinkPort) : LinkPort := { l with badCheck := sat16 (l.badCheck + 1) }

/-- A good frame offered to the receive queue (R64). -/
def LinkPort.offer (f : List Byte) (l : LinkPort) : LinkPort :=
  if l.queue.length < Config.receiveQueueCapacity then { l with queue := l.queue ++ [f] }
  else { l with dropped := sat16 (l.dropped + 1) }

/-- Whether a good notice signals a peer arrival (R63). -/
def Notice.signals (own : Nat) : Notice → Bool
  | .position p => p.id != own
  | .leave id _ => id != own
  | .crane _ _ => false

/-- The notice of a good frame: one that passes the check and the form test (R63). -/
def goodNotice (f : List Byte) : Option Notice := if framePasses f then readNotice f else none

/-- Frames in rises by one (R63). -/
def LinkPort.countIn (l : LinkPort) : LinkPort := { l with framesIn := sat16 (l.framesIn + 1) }

/-- A frame arrival (R63). -/
def State.frameArrival (f : List Byte) (s : State) : State :=
  if s.ctl.state = .config then s
  else match goodNotice f with
    | none => { s with link := s.link.countIn.bad }
    | some n =>
      { s with link := s.link.countIn.offer f, sched := if n.signals s.ctl.id then s.sched.peerArrival else s.sched }

/-- A parsed notice handed to its reader (R65). -/
def State.handNotice (n : Notice) (s : State) : State :=
  match n with
  | .position p => s.takePosition p
  | .leave id seq => s.takeLeave id seq
  | .crane id bays => s.craneNotice id bays

/-- A parse (R65). -/
def State.frameParse (s : State) : State :=
  if s.ctl.state = .config then s
  else match s.link.queue with
    | [] => s
    | f :: rest =>
      let s1 := { s with link := { s.link with queue := rest } }
      match readNotice f with
      | some n => s1.handNotice n
      | none => s1

/-! ### Sending (R59, R61) -/

/-- The taken report of a POSITION notice at the Scheduler: the countdown, and the window while the cadence
runs (R69, R72). -/
def State.positionTaken (fresh : Bool) (s : State) : State :=
  let c := s.sched.decideWindow
  { s with sched := { c with
      freshStart := if fresh then c.freshStart - 1 else c.freshStart,
      window := if c.cadence.isSome then some { closes := s.clock + Config.coincidenceWindow, coincident := false } else none } }

/-- The change into OFF-LINE at the third taken LEAVE notice (R75, R160). -/
def State.goOffLine (s : State) : State :=
  { s with sched := { s.sched with guard := none }, ctl := { s.ctl with state := .offLine } }.recompute

/-- The taken report of a LEAVE notice (R61, R74, R160). -/
def State.leaveTaken (s : State) : State :=
  let s1 := { s with sched := { s.sched with leaveCount := s.sched.leaveCount + 1 } }
  if s1.ctl.state = .leaving ∧ 3 ≤ s1.sched.leaveCount then s1.goOffLine else s1

/-- The transmit slot empties and the notices-taken counter rises (R59). -/
def LinkPort.takeSlot (l : LinkPort) : LinkPort := { l with slot := none, taken := sat16 (l.taken + 1) }

/-- The modem's start-of-send (R59, R61, R101). -/
def State.startOfSend (s : State) : State :=
  match s.link.slot with
  | none => s
  | some b =>
    let s1 := { s with link := s.link.takeSlot }
    match b.notice with
    | .position p => (s1.positionTaken p.fresh).claimOnly (ownAdvertise p.wanted) true
    | .leave _ _ => s1.leaveTaken
    | .crane _ _ => s1

/-! ### The Scheduler's timers (R71, R72, R73, R74) -/

/-- The cadence timer runs out (R71). -/
def State.cadenceExpiry (s : State) : State :=
  match s.sched.cadence with
  | none => s
  | some due => (s.reach due).buildPosition.beginSlot ((s.sched.slotIndex + 1) % 8)

/-- The guard timer has run out with nothing to build. -/
def State.stopGuard (s : State) : State := { s with sched := { s.sched with guard := none } }

/-- The prompt guard timer runs out (R73, R74). -/
def State.guardExpiry (s : State) : State :=
  match s.sched.guard with
  | none => s
  | some due =>
    let s1 := s.reach due
    match s.ctl.state with
    | .joining | .run =>
      if s.sched.pendingNotice then ((s1.setPendingNotice false).buildPosition).startGuard else s1.stopGuard
    | .leaving => if s.sched.leaveCount < 3 then s1.buildLeave.startGuard else s1.stopGuard
    | .config | .offLine => s1.stopGuard

/-- The near-coincidence window's time runs out (R72). -/
def State.windowClose (s : State) : State :=
  match s.sched.window with
  | none => s
  | some w =>
    let s1 := s.reach w.closes
    { s1 with sched := s1.sched.decideWindow }

end Sys2Proof.Machine
end

