-- ==== Sys2Proof/Machine/Station.lean ====
section
/-! DEFINITION. Station.lean: Station Control (chapter 10): identity, tuning, the life cycle, with SET LOAD, SET
PRIORITY and the timers of the claims. -/

namespace Sys2Proof.Machine

def State.setCtl (c : StationControl) (s : State) : State := { s with ctl := c }

/-! ### SET STATION (R161) -/

/-- The orientation a parameter names (R161). -/
def orientationOf (n : Nat) : Orientation := if n = 0 then .along else .against

/-- SET STATION at its owner. -/
def ownSetStation (vals : List Nat) (s : State) : Answer :=
  match vals with
  | [] => (s, some (Reply.broken 0 []))
  | [id] =>
    if id < 1 ∨ 62 < id then s.refuse .refusedValue
    else (s.setCtl { s.ctl with id := id }, some (Reply.broken 1 []))
  | id :: o :: _ =>
    if id < 1 ∨ 62 < id ∨ 1 < o then s.refuse .refusedValue
    else (s.setCtl { s.ctl with id := id, orientation := orientationOf o }, some (Reply.plain .done))

/-! ### SET TUNING (R162) -/

/-- The index of Vmax. -/
def vmaxIndex : Nat := 30

/-- A class ceiling's index. -/
def isClassIndex (i : Nat) : Bool := decide (32 ≤ i) && decide (i ≤ 39)

/-- The parameter as a value: index 43 is signed (R179). -/
def tuningGiven (i v : Nat) : Int := if i = 43 then signed21 v else v

/-- The range of an index; a class ceiling ends at Vmax (R162). -/
def tuningRange (tuning : List Int) (i : Nat) : Option (Int × Int) :=
  match Config.tuningTable[i]? with
  | some r => some (r.lo, if isClassIndex i then tuning.getD vmaxIndex 0 else r.hi)
  | none => none

/-- A value clamped to the nearer end of its range. -/
def clampTo (r : Int × Int) (v : Int) : Int := max r.1 (min r.2 v)

/-- Store a value; a lower Vmax lowers the class ceilings above it (R162). -/
def storeTuning (tuning : List Int) (i : Nat) (v : Int) : List Int :=
  let t := tuning.set i v
  if i = vmaxIndex then t.mapIdx (fun j x => if isClassIndex j then min x v else x) else t

/-- The data of SET TUNING's reply: index, value as stored (R162, R180). -/
def tuningData (i : Nat) (v : Int) : List Byte := pack 1 i ++ packSigned 3 v

/-- SET TUNING at its owner; broken after an index outside the table it answers the count alone (log 9). A new still
count limit may change the effective motion (R36, R37). -/
def ownSetTuning (vals : List Nat) (s : State) : Answer :=
  match vals with
  | [] => (s, some (Reply.broken 0 []))
  | [i] =>
    (s, some (Reply.broken 1 (match s.ctl.tuning[i]? with
      | some v => tuningData i v
      | none => [])))
  | i :: v :: _ =>
    match tuningRange s.ctl.tuning i with
    | none => s.refuse .refusedValue
    | some r =>
      let x := clampTo r (tuningGiven i v)
      ((s.setCtl { s.ctl with tuning := storeTuning s.ctl.tuning i x }).followMotion,
       some { status := if x = tuningGiven i v then .done else .doneClamped, data := tuningData i x })

/-! ### SET LOAD (R140), SET PRIORITY (R97) -/

/-- SET LOAD at its owner. -/
def ownSetLoad (vals : List Nat) (s : State) : Answer :=
  match vals with
  | [] => (s, some (Reply.broken 0 []))
  | v :: _ =>
    if 1 < v then s.refuse .refusedValue
    else ({ s with load := if v = 1 then .laden else .empty }.recompute, some (Reply.plain .done))

/-- SET PRIORITY at its owner. -/
def ownSetPriority (vals : List Nat) (s : State) : Answer :=
  match vals with
  | [] => (s, some (Reply.broken 0 []))
  | v :: _ =>
    ({ s with claim := { s.claim with prec := min 3 v } }.claimOnly ownNothing true,
     some (Reply.plain (if 3 < v then .doneClamped else .done)))

/-! ### START (R157), the join listen (R158) -/

/-- The check START fails in CONFIG, if any (R157). -/
def State.startCheck (s : State) : Option Nat :=
  if s.ctl.state = .config then
    (if s.ctl.id < 1 ∨ 62 < s.ctl.id then some 0 else if s.map.isSealed then none else some 1)
  else none

/-- A START taken (R75, R116, R156, R157; log 17). -/
def State.join (s : State) : State :=
  (s.setCtl { s.ctl with state := .joining, joinTimer := some (s.after s.joinListen) }).startScheduler.guided
    (fun t => (claimEvent ownStart true t).1)

/-- START at its owner. -/
def ownStartCommand (s : State) : Answer :=
  match s.startCheck with
  | some c => (s, some { status := .refusedValue, data := pack 1 c })
  | none => (s.join, some (Reply.plain .done))

/-- The join timer runs out: JOINING becomes RUN (R158). -/
def State.joinExpiry (s : State) : State :=
  match s.ctl.state, s.ctl.joinTimer with
  | .joining, some due =>
    let s1 := s.reach due
    (s1.setCtl { s1.ctl with state := .run, joinTimer := none }).guided (fun t => (claimEvent ownNothing true t).1)
  | _, _ => s

/-! ### LEAVE (R159) -/

/-- A segment of kind PARK. -/
def State.isPark (s : State) (seg : Nat) : Bool :=
  match s.map.segment seg with
  | some g => g.kind == .park
  | none => false

/-- The parked test (R159). -/
def State.parked (s : State) : Bool :=
  match s.body with
  | none => false
  | some b =>
    decide (0 ≤ b.rear) && decide (b.front ≤ s.routeLength) && (s.routeUnder b).all (fun p => s.isPark p.seg) &&
    (s.detachedUnder b).all (fun e => s.isPark e.seg)

/-- A LEAVE taken (R74, R117, R156, R159). -/
def State.depart (s : State) : State :=
  ((s.setCtl { s.ctl with state := .leaving, joinTimer := none }).guided
    (fun t => (claimEvent ownLeaving true t).1)).enterLeaving

/-- LEAVE at its owner. -/
def ownLeave (s : State) : Answer :=
  if s.parked then (s.depart, some (Reply.plain .done)) else s.refuse .notParked

/-! ### Timers of the claims (R104, R113) -/

/-- The clash timer runs out (R104). -/
def State.clashExpiry (s : State) : State :=
  match s.claim.clash with
  | none => s
  | some due =>
    let s1 := s.reach due
    { s1 with claim := { s1.claim with clash := none } }.claimOnly ownNothing true

/-- The wait timer reaches the wait limit (R113). -/
def State.waitExpiry (s : State) : State :=
  if s.working && !s.claim.waitReported then
    match (firstWanted s.claim.list).bind (·.waitStart) with
    | some t =>
      let s1 := s.reach (t + 1000000 * s.waitLimit)
      { s1 with claim := { s1.claim with waitReported := true } }.raise .waitExpired
    | none => s
  else s

/-! ### RESTART (R163) -/

/-- RESTART handed over: its reply DONE, the reset at the end of that reply. -/
def ownRestart (s : State) : Answer := ({ s with port := { s.port with restarting := true } }, some (Reply.plain .done))

end Sys2Proof.Machine
end

