-- ==== Sys2Proof/Machine/Reads.lean ====
section
/-! DEFINITION. Reads.lean: the read commands (R57, R92, R118, R130, R147, R171 to R173) with the layouts of R180.
Codes of fields that R180 does not number are log 10. -/

namespace Sys2Proof.Machine

/-! ### Codes (R180; log 10) -/

def StationState.code : StationState → Nat
  | .config => 0
  | .joining => 1
  | .run => 2
  | .leaving => 3
  | .offLine => 4

def Quality.code : Quality → Nat
  | .none => 0
  | .doubtful => 1
  | .good => 2

def Motion.code : Motion → Nat
  | .moving => 0
  | .still => 1

def Orientation.code : Orientation → Nat
  | .along => 0
  | .against => 1

def Sense.code : Sense → Nat
  | .ahead => 0
  | .back => 1

def ResetCause.code : ResetCause → Nat
  | .power => 0
  | .line => 1
  | .command => 2

def Cause.code : Cause → Nat
  | .classCeiling => 0
  | .window => 1
  | .grantEnd => 2
  | .routeEnd => 3
  | .destination => 4
  | .bay => 5
  | .vmax => 6
  | .load => 7
  | .quality => 8
  | .hold => 9

def Load.code : Load → Nat
  | .empty => 0
  | .laden => 1

def PeerStatus.code : PeerStatus → Nat
  | .fresh => 0
  | .quiet => 1
  | .lost => 2

def BaySource.code : BaySource → Nat
  | .snoop => 0
  | .overridden => 1

/-- A truth value in a bit of a field. -/
def bitAt (k : Nat) (b : Bool) : Nat := if b then 2 ^ k else 0

/-- A route index, 127 for none (R180). -/
def packIndex (i : Option Nat) : List Byte := pack 1 (i.getD 127)

/-- The largest value of three parameter bytes (R179). -/
def max21 : Nat := 2097151

/-- The suspensions field (R180). -/
def State.suspensions (s : State) : Nat := bitAt 0 s.claim.satSuspension + bitAt 1 s.claim.clash.isSome

/-- The route index reported: none without a position (R171). -/
def State.indexHere (s : State) : Option Nat := if s.placed then s.pos.index else none

/-- A reply DONE with data. -/
def State.answer (s : State) (data : List Byte) : Answer := (s, some { status := .done, data := data })

/-! ### READ STATUS, READ GUIDANCE, READ POSITION, READ ROUTE -/

def State.statusData (s : State) : List Byte :=
  pack 1 s.ctl.state.code ++ pack 1 s.ctl.id ++ pack 1 s.ctl.orientation.code ++ packBit s.map.isSealed ++
  pack 1 s.pos.quality.code ++ pack 1 s.pos.motion.code ++ pack 1 s.suspensions ++ pack 1 s.ctl.cause.code ++
  pack 2 s.ctl.resetCount

def State.guidanceData (s : State) : List Byte :=
  pack 1 s.guide.direction.code ++ pack 3 s.guide.ptl ++ pack 3 s.guide.rearward ++ packBit s.guide.permit ++
  pack 2 s.guide.ceiling ++ pack 1 s.guide.cause.code ++ pack 2 s.guide.code ++ pack 1 s.load.code

/-- An absent last rejected error is sent as 0, and the travel sign without a position as '+' (log 35, DESIGN CHOICE). -/
def State.positionData (s : State) : List Byte :=
  packIndex s.indexHere ++ pack 3 (if s.placed then s.pos.offset else 0) ++ pack 1 s.pos.quality.code ++
  pack 1 s.pos.motion.code ++ pack 2 s.segmentHere ++ pack 3 s.plusOffset ++ pack 1 s.travelSign.code ++
  pack 2 s.odo.speed ++ pack 3 s.pos.sinceFix ++ pack 2 s.pos.rejects ++ packBit s.pos.lastError.isSome ++
  packSigned 3 (s.pos.lastError.getD 0) ++ pack 1 (bitAt 0 s.pos.detect + bitAt 1 s.pos.force)

/-- The offset of an absent stop is sent as 0 (log 35, DESIGN CHOICE). -/
def State.routeReadData (s : State) : List Byte :=
  pack 1 s.route.entries.length ++ s.route.entries.flatMap (fun e => pack 2 e.seg ++ pack 1 e.sign.code) ++
  packIndex s.indexHere ++ packBit s.route.stop.isSome ++ pack 3 (s.route.stop.getD 0) ++ packBit s.route.armed

/-! ### READ CLAIMS (R118) -/

/-- The time elapsed since the wait start; 0 for an entry other than W. -/
def State.waited (s : State) (e : Claim) : Nat :=
  match e.waitStart with
  | some t => min max21 (s.since t)
  | none => 0

def State.claimData (s : State) (e : Claim) : List Byte :=
  pack 2 e.seg ++ pack 1 (bitAt 0 e.isHeld + bitAt 1 (e.tie == .detached)) ++ pack 1 e.advertised ++ pack 3 (s.waited e)

/-- The clash timer's time left (R118); that the field carries 0 while the timer is stopped is log 35 (DESIGN CHOICE). -/
def State.clashLeft (s : State) : Nat :=
  match s.claim.clash with
  | some due => s.left due
  | none => 0

/-- The indication of no face-off is sent as 0 (log 35, DESIGN CHOICE). -/
def FaceOff.data (f : Option FaceOff) : List Byte :=
  match f with
  | some f => pack 1 f.peer ++ packBit f.yields
  | none => pack 1 0 ++ pack 1 0

/-- The wait-reported mark is sent as 1 when it is set (log 10, DESIGN CHOICE). -/
def State.claimsData (s : State) : List Byte :=
  pack 1 s.claim.list.length ++ s.claim.list.flatMap s.claimData ++ pack 1 s.claim.prec ++ pack 1 s.suspensions ++
  pack 3 s.clashLeft ++ packBit s.claim.waitReported ++ FaceOff.data s.claim.faceOff ++
  pack 1 s.claim.doubles.length ++ s.claim.doubles.flatMap (fun d => pack 1 d.1 ++ pack 2 d.2)

/-! ### READ PEER (R92) -/

def State.peerHead (s : State) : List Byte := pack 1 s.peers.entries.length ++ packBit s.peers.saturation.isSome

def State.peerData (s : State) (p : Peer) : List Byte :=
  pack 2 p.id ++ pack 1 p.status.code ++ pack 2 p.sequence ++ pack 3 (s.peerTime p) ++ pack 3 p.missed ++
  pack 1 (bitAt 0 p.still + bitAt 1 p.laden + bitAt 2 p.joining) ++ pack 1 p.prec ++ pack 2 p.segment ++
  pack 3 p.offset ++ pack 1 p.sign.code ++ pack 3 p.speed ++ pack 1 p.held.length ++ p.held.flatMap (pack 2) ++
  pack 1 p.wanted.length ++ p.wanted.flatMap (pack 2)

/-! ### READ BAYS (R130) -/

def State.bayData (s : State) (c : Crane) (i : Nat) (b : Bay) : List Byte :=
  pack 1 c.id ++ pack 1 i ++ pack 1 b.state.code ++ pack 1 b.source.code ++ packBit b.overrideOpen ++
  pack 2 b.segment ++ pack 3 (s.craneTime c)

/-- The snoop switch is sent as 1 for ON (log 10, DESIGN CHOICE). -/
def State.baysData (s : State) : List Byte :=
  packBit s.bays.snoop ++ pack 1 s.bays.entries.length ++
  s.bays.cranes.flatMap (fun c => (c.bays.mapIdx (s.bayData c)).flatten)

/-! ### READ COUNTERS (R172), READ EVENTS (R173) -/

def State.countersData (s : State) : List Byte :=
  [s.link.framesIn, s.link.badCheck, s.link.dropped, s.link.taken, s.link.replaced, s.link.stale, s.pos.accepted,
   s.pos.cored, s.pos.rejected, s.pos.unknownTags, s.bays.notices, s.bays.unlisted].flatMap (pack 3)

/-- All twelve counters set to 0 (R172). -/
def State.clearCounters (s : State) : State :=
  { s with
    link := { s.link with framesIn := 0, badCheck := 0, dropped := 0, taken := 0, replaced := 0, stale := 0 },
    pos := { s.pos with accepted := 0, cored := 0, rejected := 0, unknownTags := 0 },
    bays := { s.bays with notices := 0, unlisted := 0 } }

def State.eventsData (s : State) : List Byte := pack 2 s.port.flags.toNat ++ pack 1 (s.port.faceOffPeer.getD 0)

/-- Every flag cleared (R173). -/
def State.clearFlags (s : State) : State := { s with port := { s.port with flags := 0 } }

/-! ### The owners -/

def ownReadStatus (s : State) : Answer := s.answer s.statusData

def ownReadGuidance (s : State) : Answer := s.answer s.guidanceData

def ownReadPosition (s : State) : Answer := s.answer s.positionData

def ownReadRoute (s : State) : Answer := s.answer s.routeReadData

def ownReadClaims (s : State) : Answer := s.answer s.claimsData

/-- READ PEER; an index not below the count is refused with the count and the saturation (R92, R180). -/
def ownReadPeer (vals : List Nat) (s : State) : Answer :=
  match vals with
  | [] => (s, some (Reply.broken 0 []))
  | i :: _ =>
    match s.peers.entries[i]? with
    | some p => s.answer (s.peerHead ++ s.peerData p)
    | none => (s, some { status := .refusedValue, data := s.peerHead })

def ownReadBays (s : State) : Answer := s.answer s.baysData

/-- READ COUNTERS with its option (R172). -/
def ownReadCounters (vals : List Nat) (s : State) : Answer :=
  match vals with
  | [] => (s, some (Reply.broken 0 []))
  | 0 :: _ => s.answer s.countersData
  | 1 :: _ => (s.clearCounters, some { status := .done, data := s.countersData })
  | _ :: _ => s.refuse .refusedValue

/-- READ EVENTS clears what it returns (R173). -/
def ownReadEvents (s : State) : Answer := (s.clearFlags, some { status := .done, data := s.eventsData })

end Sys2Proof.Machine
end

