-- ==== Sys2Proof/Machine/MapOps.lean ====
section
/-! DEFINITION. MapOps.lean: the map commands at the Map Store (chapter 1), with the Bay Table's rearrangement
(R120). Each answers a command complete or broken: its parameters received. -/

namespace Sys2Proof.Machine

/-- Four entries UNKNOWN, SNOOP, SHUT, with the given segments (R120, R131). -/
def freshBays (segs : List Nat) : List Bay :=
  segs.map (fun g => { state := .unknown, source := .snoop, overrideOpen := false, segment := g })

/-- Arrange the cranes afresh; segOf gives each bay's segment (R120, R131). -/
def arrangeCranes (segOf : Nat → Nat → Nat) (ids : List Nat) : List Crane :=
  ids.map (fun c => { id := c, heardAt := none, silent := false, bays := freshBays ([0, 1, 2, 3].map (segOf c)) })

/-- Put cranes into the Bay Table. -/
def State.setCranes (c : List Crane) (s : State) : State := { s with bays := { s.bays with cranes := c } }

def State.setMap (m : MapStore) (s : State) : State := { s with map := m }

/-! ### Windows and counters (R8) -/

/-- The counter has passed the window's last index (R9). -/
def Cursor.past (c : Cursor) : Bool := decide (c.last < c.counter)

/-- A write: the counter moves on (R9). -/
def Cursor.advance (c : Cursor) : Cursor := { c with counter := c.counter + 1 }

/-- A write past the window: the disregard count rises (R9). -/
def Cursor.miss (c : Cursor) : Cursor := { c with disregard := sat16 (c.disregard + 1) }

/-- A window set anew (R8). -/
def Cursor.aim (first last : Nat) : Cursor := { first := first, last := last, counter := first, disregard := 0 }

/-- The data of a map write's reply: counter and disregard count (R9, R180). -/
def Cursor.data (c : Cursor) : List Byte := pack 2 c.counter ++ pack 3 c.disregard

/-- MAP WINDOW and TAG WINDOW on a cursor, over indices up to top: the new cursor, none where nothing changes, and
the reply (R8; log 24). -/
def windowCommand (top : Nat) (c : Cursor) (vals : List Nat) : Option Cursor × Reply :=
  match vals with
  | [] => (none, Reply.broken 0 [])
  | [a] => if top < a then (none, Reply.plain .refusedValue) else (some (Cursor.aim a c.last), Reply.broken 1 [])
  | a :: b :: _ =>
    if top < a ∨ top < b ∨ b < a then (none, Reply.plain .refusedValue) else (some (Cursor.aim a b), Reply.plain .done)

/-- MAP WINDOW (R8). -/
def ownMapWindow (vals : List Nat) (s : State) : Answer :=
  let r := windowCommand 1022 s.map.segCursor vals
  (match r.1 with
   | some c => s.setMap { s.map with segCursor := c }
   | none => s, some r.2)

/-- TAG WINDOW (R8). -/
def ownTagWindow (vals : List Nat) (s : State) : Answer :=
  let r := windowCommand 511 s.map.tagCursor vals
  (match r.1 with
   | some c => s.setMap { s.map with tagCursor := c }
   | none => s, some r.2)

/-! ### Record writes (R9, R10, R11) -/

/-- The kind a code names, with crane id and bay index for BAY (R2, R179). -/
def kindOf (code crane bay : Nat) : Option Kind :=
  match code with
  | 0 => some .lane
  | 1 => some .cross
  | 2 => if 1 ≤ crane ∧ crane ≤ 15 ∧ bay ≤ 3 then some (.bay crane bay) else none
  | 3 => some .park
  | _ => none

/-- A segment record within the write-time limits (R2, R9). -/
def segmentOf (length cls kind nodeA nodeB : Nat) (conflicts : List Nat) (crane bay : Nat) : Option Segment :=
  match kindOf kind crane bay with
  | none => none
  | some k =>
    if length ≤ 65535 ∧ cls ≤ 7 ∧ nodeA ≤ 1023 ∧ nodeB ≤ 1023 ∧ conflicts.all (fun c => decide (c ≤ 1023)) then
      some { length := length, cls := cls, kind := k, nodeA := nodeA, nodeB := nodeB, conflicts := conflicts }
    else none

/-- The map after a segment record is written or its slot emptied (R9, R11). -/
def MapStore.writeSegment (m : MapStore) (g : Segment) : MapStore :=
  { m with
    segments := if g.length = 0 then tableDrop m.segCursor.counter m.segments
      else tablePut m.segCursor.counter g m.segments,
    segCursor := m.segCursor.advance, isSealed := false }

/-- MAP SEGMENT: whole or not at all (R9, R10). -/
def ownMapSegment (vals : List Nat) (s : State) : Answer :=
  match vals with
  | [len, cls, kind, a, b, c0, c1, c2, c3, crane, bay] =>
    if s.map.segCursor.past then
      (s.setMap { s.map with segCursor := s.map.segCursor.miss }, some { status := .doneCut, data := s.map.segCursor.miss.data })
    else match segmentOf len cls kind a b [c0, c1, c2, c3] crane bay with
      | none => s.refuse .refusedValue
      | some g => (s.setMap (s.map.writeSegment g), some { status := .done, data := s.map.segCursor.advance.data })
  | _ => (s, some (Reply.broken vals.length s.map.segCursor.data))

/-- A write of a table that takes part records: DONE when whole, PARTIAL with the count otherwise (R9, R10). -/
def writeReply (vals : List Nat) (whole : Nat) (st : Status) (c : Cursor) : Reply :=
  if vals.length < whole then Reply.broken vals.length c.data else { status := st, data := c.data }

/-- A write broken before its first parameter: nothing is written, and past the window it is disregarded as any
other (R9, R10). -/
def Cursor.emptyWrite (c : Cursor) : Cursor := if c.past then c.miss else c

/-- The tag slot a TAG WRITE fills: the parameters received over the former record (R10, R14). -/
def MapStore.tagDraft (m : MapStore) (tagId : Nat) (rest : List Nat) : Tag :=
  let old := (tableGet m.tagCursor.counter m.tags).getD { tagId := 0, segment := Config.noSegment, offset := 0 }
  { tagId := tagId, segment := rest.getD 0 old.segment, offset := rest.getD 1 old.offset }

/-- The write-time limits of a tag (R9). -/
def Tag.writable (t : Tag) : Bool := decide (t.tagId ≤ 16777215) && decide (t.segment ≤ 1023) && decide (t.offset ≤ 65535)

/-- The map after a tag slot is written or emptied (R9, R11). -/
def MapStore.writeTag (m : MapStore) (t : Tag) : MapStore :=
  { m with
    tags := if t.tagId = 0 then tableDrop m.tagCursor.counter m.tags else tablePut m.tagCursor.counter t m.tags,
    tagCursor := m.tagCursor.advance, isSealed := false }

/-- TAG WRITE (R9, R10). -/
def ownTagWrite (vals : List Nat) (s : State) : Answer :=
  match vals with
  | [] =>
    (s.setMap { s.map with tagCursor := s.map.tagCursor.emptyWrite }, some (Reply.broken 0 s.map.tagCursor.emptyWrite.data))
  | tagId :: rest =>
    if s.map.tagCursor.past then
      (s.setMap { s.map with tagCursor := s.map.tagCursor.miss }, some (writeReply vals 3 .doneCut s.map.tagCursor.miss))
    else if (s.map.tagDraft tagId rest).writable then
      (s.setMap (s.map.writeTag (s.map.tagDraft tagId rest)), some (writeReply vals 3 .done s.map.tagCursor.advance))
    else s.refuse .refusedValue

/-- The slow-window slot a WINDOW WRITE fills (R10, R14). -/
def MapStore.windowDraft (m : MapStore) (seg : Nat) (rest : List Nat) : SlowWindow :=
  let old := (tableGet m.winCursor.counter m.windows).getD { segment := Config.noSegment, start := 0, stop := 0, ceiling := 0 }
  { segment := seg, start := rest.getD 0 old.start, stop := rest.getD 1 old.stop, ceiling := rest.getD 2 old.ceiling }

/-- The write-time limits of a slow window (R9). -/
def SlowWindow.writable (w : SlowWindow) : Bool :=
  decide (w.segment ≤ 1023) && decide (w.start ≤ 65535) && decide (w.stop ≤ 65535) && decide (w.ceiling ≤ 1000)

/-- The map after a slow-window slot is written or emptied (R9, R11). -/
def MapStore.writeWindow (m : MapStore) (w : SlowWindow) : MapStore :=
  { m with
    windows := if w.segment = Config.noSegment then tableDrop m.winCursor.counter m.windows
      else tablePut m.winCursor.counter w m.windows,
    winCursor := m.winCursor.advance, isSealed := false }

/-- WINDOW WRITE (R9, R10). -/
def ownWindowWrite (vals : List Nat) (s : State) : Answer :=
  match vals with
  | [] =>
    (s.setMap { s.map with winCursor := s.map.winCursor.emptyWrite }, some (Reply.broken 0 s.map.winCursor.emptyWrite.data))
  | seg :: rest =>
    if s.map.winCursor.past then
      (s.setMap { s.map with winCursor := s.map.winCursor.miss }, some (writeReply vals 4 .doneCut s.map.winCursor.miss))
    else if (s.map.windowDraft seg rest).writable then
      (s.setMap (s.map.writeWindow (s.map.windowDraft seg rest)), some (writeReply vals 4 .done s.map.winCursor.advance))
    else s.refuse .refusedValue

/-! ### The crane list (R6) -/

/-- The checks on the ids of a crane list (R6). -/
def cranesOk (k : Nat) (ids : List Nat) : Bool :=
  decide (k ≤ 8) && ids.all (fun c => decide (1 ≤ c) && decide (c ≤ 15)) && decide ids.Nodup

/-- Set the crane list; a change clears the seal flag and rearranges the Bay Table (R6, R11, R120). -/
def State.setCraneList (ids : List Nat) (s : State) : State :=
  if ids = s.map.cranes then s
  else (s.setMap { s.map with cranes := ids, isSealed := false }).setCranes (arrangeCranes (fun _ _ => Config.noSegment) ids)

/-- CRANE LIST (R6). -/
def ownCraneList (vals : List Nat) (s : State) : Answer :=
  match vals with
  | [] => (s, some (Reply.broken 0 []))
  | k :: rest =>
    let ids := rest.take k
    if rest.length < 8 then
      (if cranesOk k ids then s.setCraneList ids else s, some (Reply.broken vals.length []))
    else if cranesOk k ids then (s.setCraneList ids, some (Reply.plain .done))
    else s.refuse .refusedValue

/-! ### Sealing (R12, R13) -/

/-- A failing check: the table's code (0 none, 1 SEGMENT, 2 WINDOW, 3 TAG), the record, and the reason in the
order of R13's table from 0. -/
structure SealFailure where
  table : Nat
  record : Nat
  reason : Nat
  deriving DecidableEq, Repr

/-- Whether a lower-numbered BAY segment has the same crane id and bay index (R12). -/
def MapStore.bayRepeated (m : MapStore) (id : Nat) (k : Kind) : Bool :=
  m.segments.any (fun p => decide (p.1 < id) && p.2.kind == k)

/-- The checks of one present segment, in order (R12). -/
def MapStore.segmentFault (m : MapStore) (p : Nat × Segment) : Option SealFailure :=
  let g := p.2
  let fail (r : Nat) : Option SealFailure := some { table := 1, record := p.1, reason := r }
  if g.length < 500 ∨ 20000 < g.length then fail 1
  else if g.nodeA = g.nodeB then fail 2
  else if g.conflicts.any (fun c => c != Config.noSegment && !m.present c) then fail 3
  else match g.kind with
    | .bay c _ => if !m.cranes.contains c then fail 4 else if m.bayRepeated p.1 g.kind then fail 5 else none
    | _ => none

/-- The checks of one slow-window slot (R12). -/
def MapStore.windowFault (m : MapStore) (p : Nat × SlowWindow) : Option SealFailure :=
  if !m.present p.2.segment then some { table := 2, record := p.1, reason := 6 }
  else if p.2.stop ≤ p.2.start ∨ m.lengthOf p.2.segment < p.2.stop then some { table := 2, record := p.1, reason := 7 }
  else none

/-- The checks of one tag slot (R12). -/
def MapStore.tagFault (m : MapStore) (p : Nat × Tag) : Option SealFailure :=
  if !m.present p.2.segment then some { table := 3, record := p.1, reason := 8 }
  else if m.lengthOf p.2.segment < p.2.offset then some { table := 3, record := p.1, reason := 9 }
  else if m.tags.any (fun q => decide (q.1 < p.1) && q.2.tagId == p.2.tagId) then some { table := 3, record := p.1, reason := 10 }
  else none

/-- The first failing check of the walk (R12, R13). -/
def MapStore.sealFault (m : MapStore) : Option SealFailure :=
  if m.segments.isEmpty then some { table := 0, record := Config.noSegment, reason := 0 }
  else match m.segments.findSome? m.segmentFault with
    | some f => some f
    | none =>
      match m.windows.findSome? m.windowFault with
      | some f => some f
      | none => m.tags.findSome? m.tagFault

/-- The reply of a map that is sealed: the three counts (R12). -/
def MapStore.sealedReply (m : MapStore) : Reply :=
  { status := .done, data := pack 2 m.segments.length ++ pack 1 m.windows.length ++ pack 2 m.tags.length }

/-- The reply of a refused seal (R13). -/
def SealFailure.reply (f : SealFailure) : Reply :=
  { status := .refusedValue, data := pack 1 f.table ++ pack 2 f.record ++ pack 1 f.reason }

/-- MAP SEAL: at once for a sealed map; else the walk starts and the reply comes at its end (R12). -/
def ownMapSeal (s : State) : Answer :=
  if s.map.isSealed then (s, some s.map.sealedReply) else (s.setMap { s.map with sealing := true }, none)

/-- The walk's end: the seal flag is set and the bays take their segments, or the first failing check is refused
(R12, R13, R120). -/
def State.sealWalkEnd (s : State) : State × Reply :=
  let m := { s.map with sealing := false }
  match m.sealFault with
  | some f => (s.setMap m, f.reply)
  | none => ((s.setMap { m with isSealed := true }).setCranes (arrangeCranes m.baySegment m.cranes), m.sealedReply)

/-- MAP CLEAR (R16). -/
def ownMapClear (s : State) : Answer := ((s.setMap .powerOn).setCranes [], some (Reply.plain .done))

end Sys2Proof.Machine
end

