-- ==== Sys2Proof/Machine/Reset.lean ====
section
/-! DEFINITION. Reset.lean: the three kinds of reset (R163) and the reset input (R154). -/

namespace Sys2Proof.Machine

/-- The map after the reset line or RESTART: contents and seal kept, windows and counters afresh, a walk ended
(R12, R15). -/
def MapStore.afterReset (m : MapStore) : MapStore :=
  { m with segCursor := .atFirst 1022, tagCursor := .atFirst 511, winCursor := .atFirst 15, sealing := false }

/-- The Bay Table after a reset (R131). -/
def BayTable.afterReset (m : MapStore) : BayTable := { BayTable.atReset with cranes := arrangeCranes m.baySegment m.cranes }

/-- Every block takes its reset values: all dynamic state, with the map and the station control given (R163, R40,
R58, R77, R94, R119, R131, R148, R155, R175). -/
def State.resetWith (m : MapStore) (c : StationControl) (s : State) : State :=
  let s1 := { s with map := m, ctl := c }
  let d := directionOf s.pins.wdirHigh
  { s1 with
    clock := 0, pins := { s.pins with powerOnHeld := false, reader := none }, odo := .atReset (s1.tuning 1) (s1.tuning 2) d, pos := .atReset,
    route := .atReset, link := .atReset, sched := .atReset, peers := .atReset, claim := .atReset,
    bays := .afterReset m, guide := .atReset (senseOf d c.orientation), load := .empty, line := .atReset,
    port := .atReset }

/-- The orientation of a strap level: high for ALONG (R154). -/
def strapOrientation (along : Bool) : Orientation := if along then .along else .against

/-- The power-on reset: map empty, tuning values at their defaults, straps sampled (R161, R162, R163, R164). -/
def State.coldReset (strapId : BitVec 6) (strapAlong : Bool) (s : State) : State :=
  s.resetWith .powerOn
    { state := .config, id := strapId.toNat, orientation := strapOrientation strapAlong, tuning := Config.tuningDefaults,
      joinTimer := none, cause := .power, resetCount := 0 }

/-- Power-on (R163). The reset input's level stands; where it is held low, the one reset is taken at the release
(log 19). -/
def State.powerOn (strapId : BitVec 6) (strapAlong wdirHigh : Bool) (s : State) : State :=
  let s1 := { s with pins := { s.pins with wdirHigh := wdirHigh } }
  if s.pins.resetHeld then { s1 with pins := { s1.pins with powerOnHeld := true } } else s1.coldReset strapId strapAlong

/-- Station Control after the reset line or RESTART: tuning kept, the count risen (R163, R164). -/
def StationControl.afterReset (cause : ResetCause) (c : StationControl) : StationControl :=
  { c with state := .config, joinTimer := none, cause := cause, resetCount := min 255 (c.resetCount + 1) }

/-- The reset input driven low (R154): both lines low; no PERMIT_DROP (R150; log 23). -/
def State.resetAssert (s : State) : State :=
  { s with pins := { s.pins with resetHeld := true }, line := { s.line with permit := false, high := false } }

/-- The reset input released: one reset, the power-on's where one has waited for the release (R161, R163; log 19). -/
def State.resetRelease (strapId : BitVec 6) (strapAlong : Bool) (s : State) : State :=
  let s1 := { s with pins := { s.pins with resetHeld := false } }
  if s.pins.powerOnHeld then s1.coldReset strapId strapAlong
  else s1.resetWith s.map.afterReset
    { s.ctl.afterReset .line with id := strapId.toNat, orientation := strapOrientation strapAlong }

/-- The reset of RESTART (R163). -/
def State.restartReset (s : State) : State := s.resetWith s.map.afterReset (s.ctl.afterReset .command)

end Sys2Proof.Machine
end

