-- ==== Sys2Proof/Machine/Routes.lean ====
section
/-! DEFINITION. Routes.lean: ROUTE and ROUTE CLEAR at the Route Queue (R44 to R52). -/

namespace Sys2Proof.Machine

/-- The parameters of a ROUTE received (03, "Loading a route"); a parameter not complete is absent. -/
structure RouteParams where
  mode : Nat
  sign : Option Nat
  count : Option Nat
  ids : List Nat
  stopPresent : Option Nat
  stopOffset : Option Nat
  deriving DecidableEq, Repr

/-- The parameters after the mode (R44, R165). -/
def readRoute (mode : Nat) (vals : List Nat) : RouteParams :=
  let head := if mode = 0 then vals.take 1 else []
  let tail := if mode = 0 then vals.drop 1 else vals
  let n := tail.head?.getD 0
  let body := tail.drop 1
  { mode := mode, sign := head.head?, count := tail.head?, ids := body.take n,
    stopPresent := (body.drop n)[0]?, stopOffset := (body.drop n)[1]? }

/-- Checks 1 to 4 of R44 on the parameters received. -/
def RouteParams.valuesOk (p : RouteParams) : Bool :=
  decide (p.mode ≤ 1) && decide (p.sign.getD 0 ≤ 1) && decide (p.count.getD 1 ≠ 0) && decide (p.stopPresent.getD 0 ≤ 1)

/-- A ROUTE ready to be written: the entries it keeps (the anchored or first entry last), the ids to take after
them, the room for those, how many of the command's ids the kept entries stand for, and the entry to continue. -/
structure RoutePlan where
  kept : List RouteEntry
  ids : List Nat
  room : Nat
  already : Nat
  last : RouteEntry
  deriving DecidableEq, Repr

/-- REPLACE with a position: the anchor is the current entry (R45). -/
def State.planAnchored (s : State) (i : Nat) (sign : Nat) (ids : List Nat) : Except Status RoutePlan :=
  match ids, s.route.entries[i]? with
  | id :: rest, some cur =>
    if id = cur.seg ∧ signOf sign = cur.sign then
      .ok { kept := s.route.entries.take (i + 1), ids := rest, room := Config.routeCapacity - (i + 1), already := 1, last := cur }
    else .error .notHere
  | _, _ => .error .notHere

/-- REPLACE while quality is NONE: the whole route is written (R46). -/
def State.planWhole (s : State) (sign : Nat) (ids : List Nat) : Except Status RoutePlan :=
  match ids with
  | id :: rest =>
    if s.map.present id then
      let e : RouteEntry := { seg := id, sign := signOf sign }
      .ok { kept := [e], ids := rest, room := Config.routeCapacity - 1, already := 1, last := e }
    else .error .refusedValue
  | [] => .error .refusedValue

/-- APPEND: after the last entry held (R47). -/
def State.planAppend (s : State) (ids : List Nat) : Except Status RoutePlan :=
  match s.route.entries.getLast? with
  | some e => .ok { kept := s.route.entries, ids := ids, room := Config.routeCapacity - s.route.entries.length, already := 0, last := e }
  | none => .error .notHere

/-- The anchor test of the mode (R44, check 5). -/
def State.planRoute (s : State) (p : RouteParams) : Except Status RoutePlan :=
  if p.mode = 0 then
    (match s.pos.quality, s.pos.index with
     | .none, _ => s.planWhole (p.sign.getD 0) p.ids
     | _, none => s.planWhole (p.sign.getD 0) p.ids
     | _, some i => s.planAnchored i (p.sign.getD 0) p.ids)
  else s.planAppend p.ids

/-- The stop of a complete, uncut ROUTE, and whether it was clamped to the last entry's length (R49). -/
def State.routeStop (s : State) (p : RouteParams) (t : Taking) (last : RouteEntry) : Option Nat × Bool :=
  match t.cut, p.stopPresent, p.stopOffset with
  | none, some 1, some off => (some (min off (s.map.lengthOf last.seg)), decide (s.map.lengthOf last.seg < off))
  | _, _, _ => (none, false)

/-- The data of a ROUTE's reply: entries taken, cut reason, cut position (R180); the position of no cut is sent as 0
(log 35, DESIGN CHOICE). -/
def routeData (taken : Nat) (cut : Option (CutReason × Nat)) : List Byte :=
  match cut with
  | none => pack 1 taken ++ pack 1 0 ++ pack 1 0
  | some (r, pos) => pack 1 taken ++ pack 1 r.code ++ pack 1 pos

/-- Write a planned ROUTE and report it (R45 to R51). -/
def State.writeRoute (s : State) (p : RouteParams) (plan : RoutePlan) (received : Nat) : Answer :=
  let t := takeIds s.map plan.room (plan.already + 1) plan.last plan.ids
  let entries := plan.kept ++ t.entries
  let st := s.routeStop p t (t.entries.getLast?.getD plan.last)
  let s1 := ({ s with route := { entries := entries, stop := st.1, armed := st.1.isSome } }.raiseIf t.cut.isSome .routeCut).reportRoute
  let data := routeData (plan.already + t.entries.length) t.cut
  (s1, some (if p.stopOffset.isNone then Reply.broken received data
    else { status := if t.cut.isSome then .doneCut else if st.2 then .doneClamped else .done, data := data }))

/-- ROUTE broken before its first id: an APPEND still needs an entry to continue (R44 check 5, R47), a REPLACE has no
anchor (R45); nothing is written, and no report of R51 is made (R50; log 13). -/
def State.routeWithoutIds (s : State) (p : RouteParams) (received : Nat) : Answer :=
  if p.mode ≠ 0 ∧ s.route.entries = [] then s.refuse .notHere
  else (s, some (Reply.broken received (routeData 0 none)))

/-- ROUTE, complete or broken (R44, R50). -/
def ownRoute (vals : List Nat) (s : State) : Answer :=
  match vals with
  | [] => (s, some (Reply.broken 0 (routeData 0 none)))
  | mode :: rest =>
    let p := readRoute mode rest
    if !p.valuesOk then s.refuse .refusedValue
    else if p.ids.isEmpty then s.routeWithoutIds p vals.length
    else match s.planRoute p with
      | .error st => s.refuse st
      | .ok plan => s.writeRoute p plan vals.length

/-- ROUTE CLEAR (R52). -/
def ownRouteClear (s : State) : Answer :=
  let keep := match s.pos.quality, s.pos.index with
    | .none, _ => 0
    | _, none => 0
    | _, some i => i + 1
  ({ s with route := { entries := s.route.entries.take keep, stop := none, armed := false } }.reportRoute, some (Reply.plain .done))

end Sys2Proof.Machine
end

