-- ==== Sys2Proof/Machine/Port.lean ====
section
/-! DEFINITION. Port.lean: the Command Port (chapter 11): the taking of bytes, the hand-over of commands, replies. -/

namespace Sys2Proof.Machine

/-! ### The states in which a command is taken (R170) -/

def StationState.isConfig : StationState → Bool
  | .config => true
  | _ => false

/-- JOINING or RUN. -/
def StationState.works : StationState → Bool
  | .joining => true
  | .run => true
  | _ => false

/-- CONFIG or OFF-LINE. -/
def StationState.starts : StationState → Bool
  | .config => true
  | .offLine => true
  | _ => false

/-- The table of R170. -/
def Cmd.takenIn (c : Cmd) (st : StationState) : Bool :=
  match c with
  | .setStation | .setTuning | .mapWindow | .mapSegment | .mapSeal | .mapClear | .tagWindow | .tagWrite | .windowWrite
  | .craneList => st.isConfig
  | .start => st.starts
  | .setPosition | .route | .routeClear | .setLoad | .setPriority | .bayControl | .stillControl | .clearPeer | .leave => st.works
  | .restart | .readStatus | .readGuidance | .readPosition | .readRoute | .readClaims | .readPeer | .readBays
  | .readCounters | .readEvents => true

/-! ### Hand-over (R165, R166, R170) -/

/-- The owner's act on a command, complete or broken. -/
def Cmd.run (c : Cmd) (vals : List Nat) (s : State) : Answer :=
  match c with
  | .setStation => ownSetStation vals s
  | .setTuning => ownSetTuning vals s
  | .mapWindow => ownMapWindow vals s
  | .mapSegment => ownMapSegment vals s
  | .mapSeal => ownMapSeal s
  | .mapClear => ownMapClear s
  | .tagWindow => ownTagWindow vals s
  | .tagWrite => ownTagWrite vals s
  | .windowWrite => ownWindowWrite vals s
  | .craneList => ownCraneList vals s
  | .start => ownStartCommand s
  | .leave => ownLeave s
  | .restart => ownRestart s
  | .setPosition => ownSetPosition vals s
  | .route => ownRoute vals s
  | .routeClear => ownRouteClear s
  | .setLoad => ownSetLoad vals s
  | .setPriority => ownSetPriority vals s
  | .bayControl => ownBayControl vals s
  | .stillControl => ownStillControl vals s
  | .clearPeer => ownClearPeer vals s
  | .readStatus => ownReadStatus s
  | .readGuidance => ownReadGuidance s
  | .readPosition => ownReadPosition s
  | .readRoute => ownReadRoute s
  | .readClaims => ownReadClaims s
  | .readPeer => ownReadPeer vals s
  | .readBays => ownReadBays s
  | .readCounters => ownReadCounters vals s
  | .readEvents => ownReadEvents s

/-- The state test, then the owner (R170). -/
def Cmd.act (c : Cmd) (vals : List Nat) (s : State) : Answer :=
  if c.takenIn s.ctl.state then c.run vals s else s.refuse .refusedState

def State.setPort (p : CommandPort) (s : State) : State := { s with port := p }

/-- A reply handed back waits for its place (R165, R169). -/
def State.queueReply (r : Option Reply) (s : State) : State :=
  s.setPort { s.port with waiting := s.port.waiting ++ r.toList }

/-- A command handed over, its reply waiting (R165). -/
def State.handOver (c : Cmd) (vals : List Nat) (s : State) : State := (c.act vals s).1.queueReply (c.act vals s).2

/-! ### Placing replies (R169) -/

/-- The bytes held by the reply buffer. -/
def CommandPort.held (p : CommandPort) : Nat := (p.placed.map List.length).sum

/-- A reply's bytes, with the indications it carries (R167, R168, R180). -/
def CommandPort.bytesOf (p : CommandPort) (r : Reply) : List Byte := replyByte r.status p.overrun p.stray :: r.data

/-- Place the oldest waiting reply when the buffer has room for the whole of it; placing clears the indications. -/
def CommandPort.placeOne (p : CommandPort) : CommandPort :=
  match p.waiting with
  | [] => p
  | r :: rest =>
    if p.held + (r.data.length + 1) ≤ Config.replyBufferCapacity then
      { p with waiting := rest, placed := p.placed ++ [p.bytesOf r], overrun := false, stray := false }
    else p

/-- Place waiting replies, oldest first, n at most. -/
def CommandPort.placeMany : Nat → CommandPort → CommandPort
  | 0, p => p
  | n + 1, p => CommandPort.placeMany n p.placeOne

/-- Place every waiting reply that has room. -/
def CommandPort.placeAll (p : CommandPort) : CommandPort := CommandPort.placeMany p.waiting.length p

/-- REPLY_PLACE (R169). -/
def State.replyPlace (s : State) : State := s.setPort s.port.placeOne

/-- Replies that have room are placed before the port takes anything further (log 5). -/
def State.settle (s : State) : State := s.setPort s.port.placeAll

/-- The port takes no further byte: a walk or a RESTART is under way, or a reply waits for room (R12, R163, R165,
R169). -/
def State.busy (s : State) : Bool := s.map.sealing || s.port.restarting || !s.port.waiting.isEmpty

/-- Take something at the port: waiting replies are placed first; a busy port takes nothing and leaves the state
as it was (log 5). -/
def State.atPort (k : State → State) (s : State) : State := if s.settle.busy then s else k s.settle

/-! ### Opening, breaking and completing commands (R165, R166, R167) -/

/-- A break: the open command is handed over with its complete parameters (R166). -/
def State.breakOpen (s : State) : State :=
  match s.port.openCmd with
  | none => s
  | some o => (s.setPort { s.port with openCmd := none }).handOver o.cmd o.values

/-- Open a command; one without parameters is complete at once (R165). -/
def State.openCommand (c : Cmd) (s : State) : State :=
  match c.nextWidth [] with
  | none => s.handOver c []
  | some _ => s.setPort { s.port with openCmd := some { cmd := c, values := [], acc := 0, got := 0 } }

/-- An unknown command is complete at once (R167). -/
def State.answerUnknown (s : State) : State := s.queueReply (some (Reply.plain .unknownCommand))

/-- A command byte taken: a break of the open command, then the byte's own command (R165, R166, R167). -/
def State.takeCommandByte (b : Byte) (s : State) : State :=
  match Cmd.ofByte b with
  | some c => s.breakOpen.openCommand c
  | none => s.breakOpen.answerUnknown

/-- The seven bits of a parameter byte joined to the parameter being assembled (R165, R179). -/
def OpenCommand.addByte (b : Byte) (o : OpenCommand) : OpenCommand := { o with acc := 128 * o.acc + b.toNat % 128, got := o.got + 1 }

/-- The parameter being assembled is complete. -/
def OpenCommand.endParameter (o : OpenCommand) : OpenCommand := { o with values := o.values ++ [o.acc], acc := 0, got := 0 }

/-- A parameter byte of an open command (R165). -/
def State.addParameter (b : Byte) (o : OpenCommand) (s : State) : State :=
  match o.cmd.nextWidth o.values with
  | none => (s.setPort { s.port with openCmd := none }).handOver o.cmd o.values
  | some w =>
    let o1 := o.addByte b
    if o1.got < w then s.setPort { s.port with openCmd := some o1 }
    else match o1.cmd.nextWidth o1.endParameter.values with
      | none => (s.setPort { s.port with openCmd := none }).handOver o1.cmd o1.endParameter.values
      | some _ => s.setPort { s.port with openCmd := some o1.endParameter }

/-- A parameter byte taken: into the open command, or stray (R165, R167). -/
def State.takeParameterByte (b : Byte) (s : State) : State :=
  match s.port.openCmd with
  | some o => s.addParameter b o
  | none => s.setPort { s.port with stray := true }

/-! ### The events of the port -/

/-- A byte from the host (R168). -/
def State.hostByte (b : Byte) (s : State) : State :=
  if s.port.rx.length < Config.receiveBufferCapacity then s.setPort { s.port with rx := s.port.rx ++ [b] }
  else s.setPort { s.port with overrun := true }

/-- Drop the byte taken from the receive buffer. -/
def State.popByte (s : State) : State := s.setPort { s.port with rx := s.port.rx.tail }

/-- COMMAND_BYTE_TAKEN: the oldest byte is a command byte (R165). -/
def State.commandByteTaken (s : State) : State :=
  match s.port.rx with
  | [] => s
  | b :: _ => if b.msb then s.atPort (fun t => t.popByte.takeCommandByte b) else s

/-- PARAMETER_BYTE_TAKEN: the oldest byte is a parameter byte (R165). -/
def State.parameterByteTaken (s : State) : State :=
  match s.port.rx with
  | [] => s
  | b :: _ => if b.msb then s else s.atPort (fun t => t.popByte.takeParameterByte b)

/-- UNKNOWN_COMMAND: the oldest byte where it is an unknown command byte, else an unknown command byte given
directly (R167; log 25). -/
def State.unknownCommand (s : State) : State :=
  match s.port.rx with
  | b :: _ =>
    if b.msb && (Cmd.ofByte b).isNone then s.atPort (fun t => t.popByte.breakOpen.answerUnknown)
    else s.atPort (fun t => t.breakOpen.answerUnknown)
  | [] => s.atPort (fun t => t.breakOpen.answerUnknown)

/-- A whole command given directly: its command byte breaks an open command, its parameters complete it (log 1). -/
def State.takeCommand (c : Cmd) (vals : List Nat) (s : State) : State := s.atPort (fun t => t.breakOpen.handOver c vals)

/-- MAP_SEAL_WALK_END (R12). -/
def State.walkEnd (s : State) : State :=
  if s.map.sealing then s.sealWalkEnd.1.queueReply (some s.sealWalkEnd.2) else s

/-- The oldest reply has left the buffer; after the last reply before a RESTART the reset is taken (R163, R169). -/
def State.replySent (s : State) : State :=
  let t := s.settle
  match t.port.placed with
  | [] => t
  | _ :: rest =>
    let u := t.setPort { t.port with placed := rest }
    if u.port.restarting && rest.isEmpty && u.port.waiting.isEmpty then u.restartReset else u

end Sys2Proof.Machine
end

