-- ==== Sys2Proof/Machine/Exec.lean ====
section
/-! DEFINITION. Exec.lean: the meaning of each row of the table, one definition each. No row has a fault. -/

namespace Sys2Proof.Machine

/-- The outcome of a row. -/
abbrev Outcome := Host.Outcome State Fault Refusal

/-- While the part is held in reset, a row has no effect (R154; log 4). -/
def State.unlessHeld (k : State → State) (s : State) : State := if s.pins.resetHeld then s else k s

/-- POWER_ON (R163). -/
def execPowerOn (strapId : BitVec 6) (strapAlong wdirHigh : Bool) (s : State) : Outcome :=
  .next (s.powerOn strapId strapAlong wdirHigh)

/-- RESET_LINE_ASSERT (R154). -/
def execResetLineAssert (s : State) : Outcome := .next (s.resetAssert)

/-- RESET_LINE_RELEASE (R163); without an assertion before it, it resets all the same (log 19). -/
def execResetLineRelease (strapId : BitVec 6) (strapAlong : Bool) (s : State) : Outcome :=
  .next (s.resetRelease strapId strapAlong)

/-- HOST_BYTE_ARRIVAL (R168). -/
def execHostByteArrival (byte : Byte) (s : State) : Outcome := .next (s.unlessHeld (State.hostByte byte))

/-- COMMAND_BYTE_TAKEN (R165). -/
def execCommandByteTaken (s : State) : Outcome := .next (s.unlessHeld State.commandByteTaken)

/-- PARAMETER_BYTE_TAKEN (R165). -/
def execParameterByteTaken (s : State) : Outcome := .next (s.unlessHeld State.parameterByteTaken)

/-- REPLY_PLACE (R169). -/
def execReplyPlace (s : State) : Outcome := .next (s.unlessHeld State.replyPlace)

/-- REPLY_SENT (R169, R163). -/
def execReplySent (s : State) : Outcome := .next (s.unlessHeld State.replySent)

/-- UNKNOWN_COMMAND (R167). -/
def execUnknownCommand (s : State) : Outcome := .next (s.unlessHeld State.unknownCommand)

/-- SET_STATION (R161). -/
def execSetStation (id orientation : Nat) (s : State) : Outcome :=
  .next (s.unlessHeld (State.takeCommand .setStation [id, orientation]))

/-- SET_TUNING (R162). -/
def execSetTuning (index value : Nat) (s : State) : Outcome :=
  .next (s.unlessHeld (State.takeCommand .setTuning [index, value]))

/-- MAP_WINDOW (R8). -/
def execMapWindow (first last : Nat) (s : State) : Outcome :=
  .next (s.unlessHeld (State.takeCommand .mapWindow [first, last]))

/-- MAP_SEGMENT (R9). -/
def execMapSegment (length cls kind nodeA nodeB c0 c1 c2 c3 crane bay : Nat) (s : State) : Outcome :=
  .next (s.unlessHeld (State.takeCommand .mapSegment [length, cls, kind, nodeA, nodeB, c0, c1, c2, c3, crane, bay]))

/-- MAP_SEAL (R12). -/
def execMapSeal (s : State) : Outcome := .next (s.unlessHeld (State.takeCommand .mapSeal []))

/-- MAP_SEAL_WALK_END (R12, R13). -/
def execMapSealWalkEnd (s : State) : Outcome := .next (s.unlessHeld State.walkEnd)

/-- MAP_CLEAR (R16). -/
def execMapClear (s : State) : Outcome := .next (s.unlessHeld (State.takeCommand .mapClear []))

/-- TAG_WINDOW (R8). -/
def execTagWindow (first last : Nat) (s : State) : Outcome :=
  .next (s.unlessHeld (State.takeCommand .tagWindow [first, last]))

/-- TAG_WRITE (R9). -/
def execTagWrite (tagId segment offset : Nat) (s : State) : Outcome :=
  .next (s.unlessHeld (State.takeCommand .tagWrite [tagId, segment, offset]))

/-- WINDOW_WRITE (R9). -/
def execWindowWrite (segment start stop ceiling : Nat) (s : State) : Outcome :=
  .next (s.unlessHeld (State.takeCommand .windowWrite [segment, start, stop, ceiling]))

/-- CRANE_LIST (R6). -/
def execCraneList (count c0 c1 c2 c3 c4 c5 c6 c7 : Nat) (s : State) : Outcome :=
  .next (s.unlessHeld (State.takeCommand .craneList [count, c0, c1, c2, c3, c4, c5, c6, c7]))

/-- START (R157). -/
def execStart (s : State) : Outcome := .next (s.unlessHeld (State.takeCommand .start []))

/-- LEAVE (R159). -/
def execLeave (s : State) : Outcome := .next (s.unlessHeld (State.takeCommand .leave []))

/-- RESTART (R163). -/
def execRestart (s : State) : Outcome := .next (s.unlessHeld (State.takeCommand .restart []))

/-- SET_POSITION (R39). -/
def execSetPosition (segment offset sign : Nat) (s : State) : Outcome :=
  .next (s.unlessHeld (State.takeCommand .setPosition [segment, offset, sign]))

/-- ROUTE_REPLACE (R45): ROUTE in mode 0. -/
def execRouteReplace (firstSign : Nat) (ids : List Nat) (stopPresent stopOffset : Nat) (s : State) : Outcome :=
  .next (s.unlessHeld (State.takeCommand .route (0 :: firstSign :: ids.length :: (ids ++ [stopPresent, stopOffset]))))

/-- ROUTE_APPEND (R47): ROUTE in mode 1. -/
def execRouteAppend (ids : List Nat) (stopPresent stopOffset : Nat) (s : State) : Outcome :=
  .next (s.unlessHeld (State.takeCommand .route (1 :: ids.length :: (ids ++ [stopPresent, stopOffset]))))

/-- ROUTE_CLEAR (R52). -/
def execRouteClear (s : State) : Outcome := .next (s.unlessHeld (State.takeCommand .routeClear []))

/-- SET_LOAD (R140). -/
def execSetLoad (load : Nat) (s : State) : Outcome := .next (s.unlessHeld (State.takeCommand .setLoad [load]))

/-- SET_PRIORITY (R97). -/
def execSetPriority (prec : Nat) (s : State) : Outcome := .next (s.unlessHeld (State.takeCommand .setPriority [prec]))

/-- BAY_CONTROL (R125). -/
def execBayControl (snoop crane o0 o1 o2 o3 : Nat) (s : State) : Outcome :=
  .next (s.unlessHeld (State.takeCommand .bayControl [snoop, crane, o0, o1, o2, o3]))

/-- STILL_CONTROL (R37). -/
def execStillControl (force detect : Nat) (s : State) : Outcome :=
  .next (s.unlessHeld (State.takeCommand .stillControl [force, detect]))

/-- CLEAR_PEER (R91). -/
def execClearPeer (station : Nat) (s : State) : Outcome :=
  .next (s.unlessHeld (State.takeCommand .clearPeer [station]))

/-- READ_STATUS (R171). -/
def execReadStatus (s : State) : Outcome := .next (s.unlessHeld (State.takeCommand .readStatus []))

/-- READ_GUIDANCE (R147). -/
def execReadGuidance (s : State) : Outcome := .next (s.unlessHeld (State.takeCommand .readGuidance []))

/-- READ_POSITION (R171). -/
def execReadPosition (s : State) : Outcome := .next (s.unlessHeld (State.takeCommand .readPosition []))

/-- READ_ROUTE (R57). -/
def execReadRoute (s : State) : Outcome := .next (s.unlessHeld (State.takeCommand .readRoute []))

/-- READ_CLAIMS (R118). -/
def execReadClaims (s : State) : Outcome := .next (s.unlessHeld (State.takeCommand .readClaims []))

/-- READ_PEER (R92). -/
def execReadPeer (index : Nat) (s : State) : Outcome := .next (s.unlessHeld (State.takeCommand .readPeer [index]))

/-- READ_BAYS (R130). -/
def execReadBays (s : State) : Outcome := .next (s.unlessHeld (State.takeCommand .readBays []))

/-- READ_COUNTERS (R172): option 0. -/
def execReadCounters (s : State) : Outcome := .next (s.unlessHeld (State.takeCommand .readCounters [0]))

/-- READ_COUNTERS_CLEAR (R172): option 1. -/
def execReadCountersClear (s : State) : Outcome := .next (s.unlessHeld (State.takeCommand .readCounters [1]))

/-- READ_EVENTS (R173). -/
def execReadEvents (s : State) : Outcome := .next (s.unlessHeld (State.takeCommand .readEvents []))

/-- WHEEL_PULSE (R18). -/
def execWheelPulse (s : State) : Outcome := .next (s.unlessHeld State.wheelPulse)

/-- RACE_END (R19). -/
def execRaceEnd (s : State) : Outcome := .next (s.unlessHeld State.raceEnd)

/-- DIRECTION_CHANGE (R22). -/
def execDirectionChange (s : State) : Outcome := .next (s.unlessHeld State.directionChange)

/-- TAG_READ (R28, R178; log 20). -/
def execTagRead (b1 b2 b3 b4 b5 : Byte) (s : State) : Outcome := .next (s.unlessHeld (State.tagRead b1 b2 b3 b4 b5))

/-- READ_GAP_TIMEOUT (R153). -/
def execReadGapTimeout (s : State) : Outcome := .next (s.unlessHeld State.gapTimeout)

/-- PERIOD_START (R151). -/
def execPeriodStart (s : State) : Outcome := .next (s.unlessHeld State.periodBegin)

/-- WIDTH_REACHED (R151). -/
def execWidthReached (s : State) : Outcome := .next (s.unlessHeld State.widthEnd)

/-- MODEM_FRAME_ARRIVAL (R63). -/
def execModemFrameArrival (frame : List Byte) (s : State) : Outcome := .next (s.unlessHeld (State.frameArrival frame))

/-- START_OF_SEND (R59). -/
def execStartOfSend (s : State) : Outcome := .next (s.unlessHeld State.startOfSend)

/-- FRAME_PARSE (R65). -/
def execFrameParse (s : State) : Outcome := .next (s.unlessHeld State.frameParse)

/-- CADENCE_EXPIRY (R71). -/
def execCadenceExpiry (s : State) : Outcome := .next (s.unlessHeld State.cadenceExpiry)

/-- PROMPT_GUARD_EXPIRY (R73, R74). -/
def execPromptGuardExpiry (s : State) : Outcome := .next (s.unlessHeld State.guardExpiry)

/-- COINCIDENCE_WINDOW_CLOSE (R72). -/
def execCoincidenceWindowClose (s : State) : Outcome := .next (s.unlessHeld State.windowClose)

/-- QUIET_TIME_REACHED (R86). -/
def execQuietTimeReached (station : Nat) (s : State) : Outcome :=
  .next (s.unlessHeld (State.quietTimeReached station))

/-- PEER_LOST (R86). -/
def execPeerLost (station : Nat) (s : State) : Outcome := .next (s.unlessHeld (State.lostTimeReached station))

/-- SATURATION_TIMER_EXPIRY (R90). -/
def execSaturationTimerExpiry (s : State) : Outcome := .next (s.unlessHeld State.saturationExpiry)

/-- CLASH_TIMER_EXPIRY (R104). -/
def execClashTimerExpiry (s : State) : Outcome := .next (s.unlessHeld State.clashExpiry)

/-- WAIT_EXPIRED (R113). -/
def execWaitExpired (s : State) : Outcome := .next (s.unlessHeld State.waitExpiry)

/-- CRANE_SILENCE_EXPIRY (R124). -/
def execCraneSilenceExpiry (crane : Nat) (s : State) : Outcome :=
  .next (s.unlessHeld (State.craneSilenceExpiry crane))

/-- JOIN_LISTEN_EXPIRY (R158). -/
def execJoinListenExpiry (s : State) : Outcome := .next (s.unlessHeld State.joinExpiry)

/-- READER_LEAD_BYTE (R178). -/
def execReaderLeadByte (byte : Byte) (s : State) : Outcome := .next (s.unlessHeld (State.readerByte byte))

/-- DIRECTION_LEVEL_CHANGE (R153); in reset only the level is kept. -/
def execDirectionLevelChange (s : State) : Outcome := .next (s.directionLevel)

end Sys2Proof.Machine
end

