-- ==== Sys2Proof/Machine/Dispatch.lean ====
section
/-! DEFINITION. Dispatch.lean: one arm per row of the table. -/

namespace Sys2Proof.Machine

/-- A command's effect on everything but the queue. -/
def exec (i : Instr) (s : State) : Host.Outcome State Fault Refusal :=
  match i with
  | .powerOn strapId strapAlong wdirHigh => Sys2Proof.Machine.execPowerOn strapId strapAlong wdirHigh s
  | .resetLineAssert => Sys2Proof.Machine.execResetLineAssert s
  | .resetLineRelease strapId strapAlong => Sys2Proof.Machine.execResetLineRelease strapId strapAlong s
  | .hostByteArrival byte => Sys2Proof.Machine.execHostByteArrival byte s
  | .commandByteTaken => Sys2Proof.Machine.execCommandByteTaken s
  | .parameterByteTaken => Sys2Proof.Machine.execParameterByteTaken s
  | .replyPlace => Sys2Proof.Machine.execReplyPlace s
  | .replySent => Sys2Proof.Machine.execReplySent s
  | .unknownCommand => Sys2Proof.Machine.execUnknownCommand s
  | .setStation id orientation => Sys2Proof.Machine.execSetStation id orientation s
  | .setTuning index value => Sys2Proof.Machine.execSetTuning index value s
  | .mapWindow first last => Sys2Proof.Machine.execMapWindow first last s
  | .mapSegment length cls kind nodeA nodeB c0 c1 c2 c3 crane bay => Sys2Proof.Machine.execMapSegment length cls kind nodeA nodeB c0 c1 c2 c3 crane bay s
  | .mapSeal => Sys2Proof.Machine.execMapSeal s
  | .mapSealWalkEnd => Sys2Proof.Machine.execMapSealWalkEnd s
  | .mapClear => Sys2Proof.Machine.execMapClear s
  | .tagWindow first last => Sys2Proof.Machine.execTagWindow first last s
  | .tagWrite tagId segment offset => Sys2Proof.Machine.execTagWrite tagId segment offset s
  | .windowWrite segment start stop ceiling => Sys2Proof.Machine.execWindowWrite segment start stop ceiling s
  | .craneList count c0 c1 c2 c3 c4 c5 c6 c7 => Sys2Proof.Machine.execCraneList count c0 c1 c2 c3 c4 c5 c6 c7 s
  | .start => Sys2Proof.Machine.execStart s
  | .leave => Sys2Proof.Machine.execLeave s
  | .restart => Sys2Proof.Machine.execRestart s
  | .setPosition segment offset sign => Sys2Proof.Machine.execSetPosition segment offset sign s
  | .routeReplace firstSign ids stopPresent stopOffset => Sys2Proof.Machine.execRouteReplace firstSign ids stopPresent stopOffset s
  | .routeAppend ids stopPresent stopOffset => Sys2Proof.Machine.execRouteAppend ids stopPresent stopOffset s
  | .routeClear => Sys2Proof.Machine.execRouteClear s
  | .setLoad load => Sys2Proof.Machine.execSetLoad load s
  | .setPriority prec => Sys2Proof.Machine.execSetPriority prec s
  | .bayControl snoop crane o0 o1 o2 o3 => Sys2Proof.Machine.execBayControl snoop crane o0 o1 o2 o3 s
  | .stillControl force detect => Sys2Proof.Machine.execStillControl force detect s
  | .clearPeer station => Sys2Proof.Machine.execClearPeer station s
  | .readStatus => Sys2Proof.Machine.execReadStatus s
  | .readGuidance => Sys2Proof.Machine.execReadGuidance s
  | .readPosition => Sys2Proof.Machine.execReadPosition s
  | .readRoute => Sys2Proof.Machine.execReadRoute s
  | .readClaims => Sys2Proof.Machine.execReadClaims s
  | .readPeer index => Sys2Proof.Machine.execReadPeer index s
  | .readBays => Sys2Proof.Machine.execReadBays s
  | .readCounters => Sys2Proof.Machine.execReadCounters s
  | .readCountersClear => Sys2Proof.Machine.execReadCountersClear s
  | .readEvents => Sys2Proof.Machine.execReadEvents s
  | .wheelPulse => Sys2Proof.Machine.execWheelPulse s
  | .raceEnd => Sys2Proof.Machine.execRaceEnd s
  | .directionChange => Sys2Proof.Machine.execDirectionChange s
  | .tagRead b1 b2 b3 b4 b5 => Sys2Proof.Machine.execTagRead b1 b2 b3 b4 b5 s
  | .readGapTimeout => Sys2Proof.Machine.execReadGapTimeout s
  | .periodStart => Sys2Proof.Machine.execPeriodStart s
  | .widthReached => Sys2Proof.Machine.execWidthReached s
  | .modemFrameArrival frame => Sys2Proof.Machine.execModemFrameArrival frame s
  | .startOfSend => Sys2Proof.Machine.execStartOfSend s
  | .frameParse => Sys2Proof.Machine.execFrameParse s
  | .cadenceExpiry => Sys2Proof.Machine.execCadenceExpiry s
  | .promptGuardExpiry => Sys2Proof.Machine.execPromptGuardExpiry s
  | .coincidenceWindowClose => Sys2Proof.Machine.execCoincidenceWindowClose s
  | .quietTimeReached station => Sys2Proof.Machine.execQuietTimeReached station s
  | .peerLost station => Sys2Proof.Machine.execPeerLost station s
  | .saturationTimerExpiry => Sys2Proof.Machine.execSaturationTimerExpiry s
  | .clashTimerExpiry => Sys2Proof.Machine.execClashTimerExpiry s
  | .waitExpired => Sys2Proof.Machine.execWaitExpired s
  | .craneSilenceExpiry crane => Sys2Proof.Machine.execCraneSilenceExpiry crane s
  | .joinListenExpiry => Sys2Proof.Machine.execJoinListenExpiry s
  | .readerLeadByte byte => Sys2Proof.Machine.execReaderLeadByte byte s
  | .directionLevelChange => Sys2Proof.Machine.execDirectionLevelChange s

end Sys2Proof.Machine
end

