-- ==== Sys2Proof/Machine/Step.lean ====
section
/-! DEFINITION. Step.lean: the step of the part over its queue of commands. -/

namespace Sys2Proof.Machine

/-- With no command waiting, one microsecond passes; held in reset, none (R154; log 2). -/
def State.idle (s : State) : State := if s.pins.resetHeld then s else { s with clock := s.clock + 1 }

/-- Take the command at the front of the queue and run it with the queue's rest; with none, idle. -/
def step (s : State) : Host.Outcome State Fault Refusal :=
  match s.pending with
  | [] => .next s.idle
  | c :: rest => exec c { s with pending := rest }

/-- s with the command that a word spells put at the front of its queue; no row of the table has bits. -/
def State.withFetchWord (s : State) (nbits w : Nat) : State :=
  match Sys2Proof.decodeTableWord nbits w with
  | none => s
  | some c => { s with pending := c :: s.pending }

end Sys2Proof.Machine
end

