-- ==== Sys2Proof/WellFormed.lean ====
section
/-! DEFINITION. WellFormed.lean: an event's operands fit the widths the spec gives them (R79, R120, R179). -/

namespace Sys2Proof

/-- A value that g parameter bytes of seven bits carry (R179). -/
def fits (g v : Nat) : Bool := v < 128 ^ g

/-- Every operand lies within the width that carries it (R179 for parameters, R79 for a station id as
received, R6 for a crane id). -/
def Instr.wellFormed : Instr → Bool
  | .setStation id o => fits 1 id && fits 1 o
  | .setTuning i v => fits 1 i && fits 3 v
  | .mapWindow a b => fits 2 a && fits 2 b
  | .mapSegment l c k a b c0 c1 c2 c3 cr by' =>
      fits 3 l && fits 1 c && fits 1 k && fits 2 a && fits 2 b && fits 2 c0 && fits 2 c1 && fits 2 c2 &&
      fits 2 c3 && fits 1 cr && fits 1 by'
  | .tagWindow a b => fits 2 a && fits 2 b
  | .tagWrite t g o => fits 4 t && fits 2 g && fits 3 o
  | .windowWrite g a b w => fits 2 g && fits 3 a && fits 3 b && fits 2 w
  | .craneList k c0 c1 c2 c3 c4 c5 c6 c7 =>
      fits 1 k && fits 1 c0 && fits 1 c1 && fits 1 c2 && fits 1 c3 && fits 1 c4 && fits 1 c5 && fits 1 c6 && fits 1 c7
  | .setPosition g o n => fits 2 g && fits 3 o && fits 1 n
  | .routeReplace n ids p o => fits 1 n && fits 1 ids.length && ids.all (fits 2) && fits 1 p && fits 3 o
  | .routeAppend ids p o => fits 1 ids.length && ids.all (fits 2) && fits 1 p && fits 3 o
  | .setLoad v => fits 1 v
  | .setPriority v => fits 1 v
  | .bayControl n c o0 o1 o2 o3 => fits 1 n && fits 1 c && fits 1 o0 && fits 1 o1 && fits 1 o2 && fits 1 o3
  | .stillControl f d => fits 1 f && fits 1 d
  | .clearPeer p => fits 2 p
  | .readPeer i => fits 1 i
  | .quietTimeReached p => p < 256
  | .peerLost p => p < 256
  | .craneSilenceExpiry c => c < 16
  | .powerOn _ _ _ | .resetLineAssert | .resetLineRelease _ _ | .hostByteArrival _ | .commandByteTaken
  | .parameterByteTaken | .replyPlace | .replySent | .unknownCommand | .mapSeal | .mapSealWalkEnd | .mapClear
  | .start | .leave | .restart | .routeClear | .readStatus | .readGuidance | .readPosition | .readRoute
  | .readClaims | .readBays | .readCounters | .readCountersClear | .readEvents | .wheelPulse | .raceEnd
  | .directionChange | .tagRead _ _ _ _ _ | .readGapTimeout | .periodStart | .widthReached
  | .modemFrameArrival _ | .startOfSend | .frameParse | .cadenceExpiry | .promptGuardExpiry
  | .coincidenceWindowClose | .saturationTimerExpiry | .clashTimerExpiry | .waitExpired | .joinListenExpiry
  | .readerLeadByte _ | .directionLevelChange => true

end Sys2Proof
end

