-- ==== Sys2Proof/Safety.lean ====
section
/-! DEFINITION. Safety.lean: the laws of the manual as predicates of a state, and what a row may leave changed. -/

namespace Sys2Proof.Machine

/-! ### The laws -/

/-- The capacities of the manual's laws: the receive queue (R64), the receive buffer (R168), the reply buffer
(R169), the route (R41), the peer view (R78), the double-hold record (R108). -/
structure WithinCapacity (s : State) : Prop where
  queue : s.link.queue.length ≤ Config.receiveQueueCapacity
  rx : s.port.rx.length ≤ Config.receiveBufferCapacity
  replies : s.port.held ≤ Config.replyBufferCapacity
  route : s.route.entries.length ≤ Config.routeCapacity
  peers : s.peers.entries.length ≤ Config.peerCapacity
  doubles : s.claim.doubles.length ≤ Config.doubleHoldCapacity

/-- The law of R78 on station ids; in CONFIG the table is empty (R94). -/
structure PeersDistinct (s : State) : Prop where
  distinct : (s.peers.entries.map (·.id)).Nodup
  notOwn : ∀ p ∈ s.peers.entries, p.id ≠ s.ctl.id
  config : s.ctl.state = .config → s.peers.entries = []

/-- The guidance record's permit (R142, R144): RUN, a position, and a limit above 0 in the present direction. -/
def State.permitGrounds (s : State) : Prop :=
  s.ctl.state = .run ∧ s.pos.quality ≠ .none ∧
  (match s.guide.direction with
   | .ahead => 0 < s.guide.ptl
   | .back => 0 < s.guide.rearward)

/-- The law of R150: a true permit has its grounds, and a false one leaves both lines low and no code waiting. -/
structure PermitLaw (s : State) : Prop where
  grounds : s.guide.permit = true → s.permitGrounds
  low : s.guide.permit = false →
    s.line.permit = false ∧ s.line.code = 0 ∧ s.line.pendingCode = 0 ∧ s.guide.ceiling = 0 ∧ s.guide.code = 0
  dark : s.line.high = true → 0 < s.line.code

/-- The law of R23: a place exactly when quality is not NONE, on a held entry, with an offset within its segment.
In CONFIG there is none (R40). -/
structure PlaceLaw (s : State) : Prop where
  placed : s.pos.index = none ↔ s.pos.quality = .none
  config : s.ctl.state = .config → s.pos.index = none
  within : ∀ i, s.pos.index = some i →
    ∃ e, s.route.entries[i]? = some e ∧ s.pos.offset ≤ s.map.lengthOf e.seg

/-- The seal (R11, R12, R17): a sealed map passes every check of MAP SEAL, no walk goes on over it, and a station
out of CONFIG has one. -/
structure SealLaw (s : State) : Prop where
  checked : s.map.isSealed = true → s.map.sealFault = none
  walk : s.map.sealing = true → s.map.isSealed = false
  started : s.ctl.state ≠ .config → s.map.isSealed = true

/-- The slots of the map's tables in canonical form and in range (R2, R5, R7). -/
structure TablesLaw (m : MapStore) : Prop where
  segments : tableWf m.segments = true
  windows : tableWf m.windows = true
  tags : tableWf m.tags = true
  segmentSlots : ∀ p ∈ m.segments, p.1 ≤ 1022
  windowSlots : ∀ p ∈ m.windows, p.1 ≤ 15
  tagSlots : ∀ p ∈ m.tags, p.1 ≤ 511
  segmentTop : m.segCursor.last ≤ 1022
  windowTop : m.winCursor.last ≤ 15
  tagTop : m.tagCursor.last ≤ 511

/-- Every tuning value within its range, and no class ceiling above Vmax (R162). -/
structure TuningLaw (t : List Int) : Prop where
  size : t.length = Config.tuningTable.length
  ranges : ∀ (i : Nat) (r : Config.TuningRow) (v : Int), Config.tuningTable[i]? = some r → t[i]? = some v → r.lo ≤ v ∧ v ≤ r.hi
  classes : ∀ (i : Nat) (v : Int), isClassIndex i = true → t[i]? = some v → v ≤ t.getD vmaxIndex 0

/-- The law of R144 on Vmax, with what keeps it: the tuning law, and no ceiling without a permit. -/
structure CeilingLaw (s : State) : Prop where
  tuning : TuningLaw s.ctl.tuning
  vmax : s.guide.ceiling ≤ s.vmax
  idle : s.ctl.state ≠ .run → s.guide.ceiling = 0

/-- The law of R95 on the own claim list. -/
structure ClaimLaw (l : List Claim) : Prop where
  entries : l.length ≤ Config.claimCapacity
  held : heldCount l ≤ Config.heldCapacity
  wanted : wantedCount l ≤ Config.wantedCapacity
  distinct : (l.map (·.seg)).Nodup
  order : l.Pairwise (fun a b => a.isHeld = false → b.isHeld = false)

/-- The laws of the own claim list and its double-hold record that hold of every state (R95, R108, R116): no segment
twice, at most four WANTED entries, no entry out of JOINING and RUN or without a position, and every pair named once
and with its own segment HELD. -/
structure ClaimListLaw (s : State) : Prop where
  distinct : (s.claim.list.map (·.seg)).Nodup
  wanted : wantedCount s.claim.list ≤ Config.wantedCapacity
  idle : s.working = false ∨ s.placed = false → s.claim.list = []
  pairHeld : ∀ p ∈ s.claim.doubles, p.2 ∈ heldIds s.claim.list
  pairs : s.claim.doubles.Nodup

/-- What the law of R95 rests on at an event: the list keeps it and stands in route order, each ROUTE entry is tied to
the route entry of its segment and span, a DETACHED entry is HELD (R96), and no segment of the route is shorter nor the
body longer than the ranges of the manual (R12, R162). -/
structure ClaimsFit (s : State) : Prop where
  law : ClaimLaw s.claim.list
  sorted : s.claim.list.Pairwise (fun a b => a.spanStart ≤ b.spanStart)
  tied : ∀ e ∈ s.claim.list, ∀ i, e.tie = .route i → ∃ p, s.spans[i]? = some p ∧ p.seg = e.seg ∧ p.start = e.spanStart
  detached : ∀ e ∈ s.claim.list, e.tie = .detached → e.isHeld = true
  lengths : ∀ r ∈ s.route.entries, 500 ≤ s.map.lengthOf r.seg
  half : s.halfLength ≤ 800

/-! ### Reset -/

/-- The values every kind of reset leaves in the blocks (R40, R58, R77, R94, R119, R131, R148, R155, R163, R175). -/
structure DynamicReset (t : State) : Prop where
  config : t.ctl.state = .config ∧ t.ctl.joinTimer = none
  race : t.raceTicks = 0 ∧ t.odo.racePulses = 0 ∧ t.odo.raceTickLimit = t.tuning 1 ∧ t.odo.racePulseLimit = t.tuning 2
  credit : t.odo.uncredited = 0 ∧ t.odo.residue = 0 ∧ t.odo.speed = 0
  direction : t.odo.direction = (if t.pins.wdirHigh then .forward else .reverse) ∧ t.odo.directionDue = none
  reader : t.pins.reader = none ∧ t.pins.powerOnHeld = false
  pos : t.pos =
    { index := none, offset := 0, quality := .none, motion := .moving, rejects := 0, lastError := none, sinceFix := 0,
      stillCount := 0, force := false, detect := true, formerOffset := 0, formerSign := .plus, accepted := 0,
      cored := 0, rejected := 0, unknownTags := 0 }
  route : t.route = { entries := [], stop := none, armed := false }
  link : t.link =
    { slot := none, queue := [], framesIn := 0, badCheck := 0, dropped := 0, taken := 0, replaced := 0, stale := 0 }
  sched : t.sched =
    { slotIndex := 0, cadence := none, sequence := 0, freshStart := 0, nearCount := 0, window := none, guard := none,
      pendingNotice := false, leaveCount := 0 }
  peers : t.peers = { entries := [], saturation := none }
  claim : t.claim =
    { list := [], prec := 2, satSuspension := false, clash := none, waitReported := false, faceOff := none,
      doubles := [], lastHeld := [], lastWanted := [] }
  snoop : t.bays.snoop = true ∧ t.bays.notices = 0 ∧ t.bays.unlisted = 0
  listed : t.bays.cranes.map (·.id) = t.map.cranes
  cranes : ∀ c ∈ t.bays.cranes, c.heardAt = none ∧ c.bays.map (·.segment) = [0, 1, 2, 3].map (t.map.baySegment c.id) ∧
    ∀ b ∈ c.bays, b.state = .unknown ∧ b.source = .snoop ∧ b.overrideOpen = false
  guide : t.guide =
    { direction := t.sense, ptl := 0, rearward := 0, permit := false, ceiling := 0, cause := .hold, code := 0 }
  load : t.load = .empty
  line : t.line.permit = false ∧ t.line.code = 0 ∧ t.line.pendingCode = 0 ∧ t.line.high = false ∧ t.phase = 0
  port : t.port =
    { rx := [], openCmd := none, waiting := [], placed := [], overrun := false, stray := false, flags := 0,
      faceOffPeer := none, restarting := false }

/-! ### What a report can change -/

/-- What a report to the Claim Unit and the Guidance Unit may leave changed (R99, R115, R133): the claim list, its
records and flags; a notice built by the prompt rule; route entries behind the current one taken from the front; the
guidance record and the lines. Everything else is as it was. -/
structure ReportFrame (s t : State) : Prop where
  clock : t.clock = s.clock
  pins : t.pins = s.pins
  map : t.map = s.map
  odo : t.odo = s.odo
  peers : t.peers = s.peers
  bays : t.bays = s.bays
  load : t.load = s.load
  ctl : t.ctl = s.ctl
  pending : t.pending = s.pending
  pos : { t.pos with index := s.pos.index } = s.pos
  link : { t.link with slot := s.link.slot, replaced := s.link.replaced } = s.link
  sched : { t.sched with sequence := s.sched.sequence, guard := s.sched.guard,
                         pendingNotice := s.sched.pendingNotice } = s.sched
  port : { t.port with flags := s.port.flags, faceOffPeer := s.port.faceOffPeer } = s.port
  flags : ∀ e, s.flag e = true → t.flag e = true
  prec : t.claim.prec = s.claim.prec
  suspension : t.claim.satSuspension = s.claim.satSuspension
  clash : t.claim.clash = s.claim.clash
  stop : t.route.stop = s.route.stop
  armed : t.route.armed = true → s.route.armed = true
  consumed : ∃ k, t.route.entries = s.route.entries.drop k ∧ t.pos.index = s.pos.index.map (· - k) ∧
    k ≤ s.pos.index.getD 0

/-! ### Arrival -/

/-- The station stands STILL at its armed stop, within the arrive tolerance on the last entry (R56). -/
def AtStop (s : State) : Prop :=
  ∃ d i, s.route.stop = some d ∧ s.pos.index = some i ∧ s.route.armed = true ∧ s.pos.quality ≠ .none ∧
    s.pos.motion = .still ∧ i + 1 = s.route.entries.length ∧
    s.pos.offset ≤ d + s.arriveTolerance ∧ d ≤ s.pos.offset + s.arriveTolerance

/-- What the arrival test of a report on s has made of t (R56). -/
structure ArrivalTest (s t : State) : Prop where
  arrives : AtStop s → t.flag .arrived = true ∧ t.route.armed = false
  stays : ¬ AtStop s → t.flag .arrived = s.flag .arrived ∧ t.route.armed = s.route.armed

/-! ### Rows that are host commands -/

/-- The command and the parameter values a row hands over; none for the rows that are no command (log 1). -/
def commandOf : Instr → Option (Cmd × List Nat)
  | .setStation id orientation => some (.setStation, [id, orientation])
  | .setTuning index value => some (.setTuning, [index, value])
  | .mapWindow first last => some (.mapWindow, [first, last])
  | .mapSegment length cls kind nodeA nodeB c0 c1 c2 c3 crane bay => some (.mapSegment, [length, cls, kind, nodeA, nodeB, c0, c1, c2, c3, crane, bay])
  | .mapSeal => some (.mapSeal, [])
  | .mapClear => some (.mapClear, [])
  | .tagWindow first last => some (.tagWindow, [first, last])
  | .tagWrite tagId segment offset => some (.tagWrite, [tagId, segment, offset])
  | .windowWrite segment start stop ceiling => some (.windowWrite, [segment, start, stop, ceiling])
  | .craneList count c0 c1 c2 c3 c4 c5 c6 c7 => some (.craneList, [count, c0, c1, c2, c3, c4, c5, c6, c7])
  | .start => some (.start, [])
  | .leave => some (.leave, [])
  | .restart => some (.restart, [])
  | .setPosition segment offset sign => some (.setPosition, [segment, offset, sign])
  | .routeReplace firstSign ids stopPresent stopOffset => some (.route, 0 :: firstSign :: ids.length :: (ids ++ [stopPresent, stopOffset]))
  | .routeAppend ids stopPresent stopOffset => some (.route, 1 :: ids.length :: (ids ++ [stopPresent, stopOffset]))
  | .routeClear => some (.routeClear, [])
  | .setLoad load => some (.setLoad, [load])
  | .setPriority prec => some (.setPriority, [prec])
  | .bayControl snoop crane o0 o1 o2 o3 => some (.bayControl, [snoop, crane, o0, o1, o2, o3])
  | .stillControl force detect => some (.stillControl, [force, detect])
  | .clearPeer station => some (.clearPeer, [station])
  | .readStatus => some (.readStatus, [])
  | .readGuidance => some (.readGuidance, [])
  | .readPosition => some (.readPosition, [])
  | .readRoute => some (.readRoute, [])
  | .readClaims => some (.readClaims, [])
  | .readPeer index => some (.readPeer, [index])
  | .readBays => some (.readBays, [])
  | .readCounters => some (.readCounters, [0])
  | .readCountersClear => some (.readCounters, [1])
  | .readEvents => some (.readEvents, [])
  | .powerOn _ _ _ | .resetLineAssert | .resetLineRelease _ _ | .hostByteArrival _ | .commandByteTaken
  | .parameterByteTaken | .replyPlace | .replySent | .unknownCommand | .mapSealWalkEnd | .wheelPulse
  | .raceEnd | .directionChange | .tagRead _ _ _ _ _ | .readGapTimeout | .periodStart | .widthReached
  | .modemFrameArrival _ | .startOfSend | .frameParse | .cadenceExpiry | .promptGuardExpiry
  | .coincidenceWindowClose | .quietTimeReached _ | .peerLost _ | .saturationTimerExpiry | .clashTimerExpiry
  | .waitExpired | .craneSilenceExpiry _ | .joinListenExpiry | .readerLeadByte _ | .directionLevelChange => none

/-- The port takes what is given to it: the part is not held in reset, no walk and no RESTART is under way, no
reply waits (R154, R163, R165). -/
structure PortTakes (s : State) : Prop where
  running : s.pins.resetHeld = false
  walk : s.map.sealing = false
  restart : s.port.restarting = false
  waiting : s.port.waiting = []

/-- A host command can be handed over at once: and no command is open. -/
structure PortFree (s : State) : Prop extends PortTakes s where
  closed : s.port.openCmd = none

/-- s with one reply waiting for its place: what a command that touches nothing else leaves of a free port. -/
def State.replied (st : Status) (data : List Byte) (s : State) : State :=
  s.setPort { s.port with waiting := s.port.waiting ++ [{ status := st, data := data }] }

end Sys2Proof.Machine
end

