-- ==== Sys2Proof/Certificates/Slice0/Obligations.lean ====
section
/-! DEFINITION. Obligations.lean: the statements for the provers. `State.replied` appends the reply a command owes;
`ReportFrame` says what a report to the Claim Unit and the Guidance Unit may leave changed. A row that is a host command
stands for the whole command, given at a free port (the model's choices, log 1, 5). -/

open Sys2Proof Sys2Proof.Machine

/-! ### The queue and the resets -/

/-- A step runs the command at the front of the queue on the state with the queue's rest; with no command it idles
(the idle microsecond is the model's choice, log 2). One sender fills the queue (log 28). -/
def Obligations.StepTakesFront : Prop :=
  ∀ s : State,
    (∀ c rest, s.pending = c :: rest → step s = exec c { s with pending := rest }) ∧
    (s.pending = [] → s.pins.resetHeld = false → step s = .next { s with clock := s.clock + 1 }) ∧
    (s.pending = [] → s.pins.resetHeld = true → step s = .next s)

/-- No command touches the queue. -/
def Obligations.ExecKeepsQueue : Prop :=
  ∀ (c : Instr) (s t : State), exec c s = .next t → t.pending = s.pending

/-- POWER_ON, RESET_LINE_RELEASE and RESET_LINE_ASSERT: what each leaves (R15, R154, R163, R164). The straps are operands
and a release resets in any case (the model's choices, log 6, 19). A power-on under a held input and the release after
it are one reset, taken at the release (R163), and it is the power-on's (log 19). An assertion lowers the permit line
without PERMIT_DROP (9.2, R150; the model's reading, log 23). -/
def Obligations.ResetRows : Prop :=
  ∀ (id : BitVec 6) (along high : Bool) (s : State),
    let cold (t : State) : Prop := DynamicReset t ∧ t.pending = s.pending ∧ t.pins.resetHeld = false ∧
      t.map = { segments := [], windows := [], cranes := [], tags := [], isSealed := false, sealing := false,
                segCursor := { first := 0, last := 1022, counter := 0, disregard := 0 },
                tagCursor := { first := 0, last := 511, counter := 0, disregard := 0 },
                winCursor := { first := 0, last := 15, counter := 0, disregard := 0 } } ∧
      t.ctl = { state := .config, id := id.toNat, orientation := if along then .along else .against,
                tuning := Config.tuningTable.map Config.TuningRow.dflt, joinTimer := none, cause := .power,
                resetCount := 0 }
    (s.pins.resetHeld = false →
      ∃ t : State, exec (.powerOn id along high) s = .next t ∧ cold t ∧ t.pins.wdirHigh = high) ∧
    (s.pins.resetHeld = true → exec (.powerOn id along high) s =
      .next { s with pins := { s.pins with wdirHigh := high, powerOnHeld := true } }) ∧
    (s.pins.powerOnHeld = true →
      ∃ t : State, exec (.resetLineRelease id along) s = .next t ∧ cold t ∧ t.pins.wdirHigh = s.pins.wdirHigh) ∧
    (s.pins.powerOnHeld = false →
      ∃ t : State, exec (.resetLineRelease id along) s = .next t ∧ DynamicReset t ∧ t.pending = s.pending ∧
      t.pins.resetHeld = false ∧ t.pins.wdirHigh = s.pins.wdirHigh ∧
      t.map = { s.map with
                sealing := false, segCursor := { first := 0, last := 1022, counter := 0, disregard := 0 },
                tagCursor := { first := 0, last := 511, counter := 0, disregard := 0 },
                winCursor := { first := 0, last := 15, counter := 0, disregard := 0 } } ∧
      t.ctl = { state := .config, id := id.toNat, orientation := if along then .along else .against,
                tuning := s.ctl.tuning, joinTimer := none, cause := .line,
                resetCount := min 255 (s.ctl.resetCount + 1) }) ∧
    (∃ t : State, exec .resetLineAssert s = .next t ∧ t.attentionLow = false ∧
      t = { s with pins := { s.pins with resetHeld := true }, line := { s.line with permit := false, high := false } })

/-- While the reset input is held low a row has no effect, but for the rows of the resets themselves and the level
of WDIR, which stays a level (R154; that the rows that are no input are stopped as well is the model's reading,
log 4). -/
def Obligations.HeldInReset : Prop :=
  ∀ (c : Instr) (s : State), s.pins.resetHeld = true →
    ((∀ a b d, c ≠ .powerOn a b d) → c ≠ .resetLineAssert → (∀ a b, c ≠ .resetLineRelease a b) →
      c ≠ .directionLevelChange → exec c s = .next s) ∧
    exec .directionLevelChange s = .next { s with pins := { s.pins with wdirHigh := !s.pins.wdirHigh } }

/-- RESTART: its reply first, then no further byte is taken from the receive buffer, then the reset when the last byte of
that reply leaves (R163, R164). That a command row, whose command is given directly, is not taken meanwhile either is the
model's choice (log 5). -/
def Obligations.RestartAndItsReset : Prop :=
  ∀ s : State,
    (PortFree s → exec .restart s =
      .next ({ s with port := { s.port with restarting := true } }.replied .done [])) ∧
    (s.port.restarting = true → exec .commandByteTaken s = .next s ∧ exec .parameterByteTaken s = .next s ∧
      exec .unknownCommand s = .next s ∧ ∀ c cmd vals, commandOf c = some (cmd, vals) → exec c s = .next s) ∧
    (∀ r, s.pins.resetHeld = false → s.port.restarting = true → s.port.waiting = [] → s.port.placed = [r] →
      ∃ t : State, exec .replySent s = .next t ∧ DynamicReset t ∧ t.pending = s.pending ∧ t.pins.wdirHigh = s.pins.wdirHigh ∧
        t.map = { s.map with
                  sealing := false, segCursor := { first := 0, last := 1022, counter := 0, disregard := 0 },
                  tagCursor := { first := 0, last := 511, counter := 0, disregard := 0 },
                  winCursor := { first := 0, last := 15, counter := 0, disregard := 0 } } ∧
        t.ctl = { s.ctl with state := .config, joinTimer := none, cause := .command,
                             resetCount := min 255 (s.ctl.resetCount + 1) })

/-! ### The command port -/

/-- HOST_BYTE_ARRIVAL and the RX_OVERRUN indication (R168). -/
def Obligations.HostByteArrives : Prop :=
  ∀ (s : State) (b : Byte), s.pins.resetHeld = false →
    (s.port.rx.length < 64 → exec (.hostByteArrival b) s =
      .next { s with port := { s.port with rx := s.port.rx ++ [b] } }) ∧
    (64 ≤ s.port.rx.length → exec (.hostByteArrival b) s = .next { s with port := { s.port with overrun := true } }) ∧
    (∀ r rest, s.port.waiting = r :: rest → (s.port.placed.map List.length).sum + r.data.length + 1 ≤ 512 →
      ∃ t h, exec .replyPlace s = .next t ∧ t.port.placed = s.port.placed ++ [h :: r.data] ∧
        h.getLsbD 4 = s.port.overrun ∧ t.port.overrun = false)

/-- COMMAND_BYTE_TAKEN and UNKNOWN_COMMAND: the byte's own command opens, or is complete at once; an open command
is broken first and handed over with its complete parameters; a byte that names no command is answered
UNKNOWN_COMMAND (R165, R166, R167; that UNKNOWN_COMMAND on an empty buffer is a byte given directly is log 25). First the table
of the command bytes and the parameter widths, ROUTE's by its mode and count, every other byte naming no command (R179; a mode
above 1 is laid out as APPEND by log 13). -/
def Obligations.CommandBytes : Prop :=
  (let table : List (Nat × Cmd × List Nat) :=
    [(0x81, .setStation, [1, 1]), (0x82, .setTuning, [1, 3]), (0x83, .mapWindow, [2, 2]),
     (0x84, .mapSegment, [3, 1, 1, 2, 2, 2, 2, 2, 2, 1, 1]), (0x85, .mapSeal, []), (0x86, .mapClear, []),
     (0x87, .tagWindow, [2, 2]), (0x88, .tagWrite, [4, 2, 3]), (0x89, .windowWrite, [2, 3, 3, 2]),
     (0x8A, .craneList, [1, 1, 1, 1, 1, 1, 1, 1, 1]), (0x90, .start, []), (0x91, .leave, []), (0x92, .restart, []),
     (0xA0, .setPosition, [2, 3, 1]), (0xA2, .routeClear, []), (0xA3, .setLoad, [1]), (0xA4, .setPriority, [1]),
     (0xA5, .bayControl, [1, 1, 1, 1, 1, 1]), (0xA6, .stillControl, [1, 1]), (0xA7, .clearPeer, [2]), (0xC0, .readStatus, []),
     (0xC1, .readGuidance, []), (0xC2, .readPosition, []), (0xC3, .readRoute, []), (0xC4, .readClaims, []),
     (0xC5, .readPeer, [1]), (0xC6, .readBays, []), (0xC7, .readCounters, [1]), (0xC8, .readEvents, [])]
   (∀ (b : Byte) (c : Cmd), Cmd.ofByte b = some c ↔ (b = 0xA1#8 ∧ c = .route) ∨ ∃ row ∈ table, row.1 = b.toNat ∧ row.2.1 = c) ∧
   (∀ row ∈ table, ∀ vals, row.2.1.nextWidth vals = row.2.2[vals.length]?) ∧
   Cmd.route.nextWidth [] = some 1 ∧ Cmd.route.nextWidth [0] = some 1 ∧
   ∀ (mode sign n : Nat) (l : List Nat),
     let rest : Option Nat := if l.length < n then some 2 else if l.length = n then some 1
       else if l.length = n + 1 then some 3 else none
     Cmd.route.nextWidth [0, sign] = some 1 ∧ Cmd.route.nextWidth (0 :: sign :: n :: l) = rest ∧
     (mode ≠ 0 → Cmd.route.nextWidth [mode] = some 1 ∧ Cmd.route.nextWidth (mode :: n :: l) = rest)) ∧
  (∀ s : State, PortFree s → s.port.rx = [] → exec .unknownCommand s = .next (s.replied .unknownCommand [])) ∧
  ∀ (s : State) (b : Byte) (rest : List Byte), PortTakes s → s.port.rx = b :: rest →
    (s.port.openCmd = none →
      (∀ c, Cmd.ofByte b = some c → c.nextWidth [] = none → exec .commandByteTaken s =
        .next (State.handOver c [] { s with port := { s.port with rx := rest } })) ∧
      (∀ c w, Cmd.ofByte b = some c → c.nextWidth [] = some w → exec .commandByteTaken s =
        .next { s with port := { s.port with rx := rest,
                                             openCmd := some { cmd := c, values := [], acc := 0, got := 0 } } }) ∧
      (Cmd.ofByte b = none → b.msb = true →
        exec .commandByteTaken s =
          .next (State.replied .unknownCommand [] { s with port := { s.port with rx := rest } }) ∧
        exec .unknownCommand s =
          .next (State.replied .unknownCommand [] { s with port := { s.port with rx := rest } }))) ∧
    (∀ o, s.port.openCmd = some o →
      let u := State.handOver o.cmd o.values { s with port := { s.port with rx := rest, openCmd := none } }
      (∀ c, Cmd.ofByte b = some c → c.nextWidth [] = none → exec .commandByteTaken s = .next (State.handOver c [] u)) ∧
      (∀ c w, Cmd.ofByte b = some c → c.nextWidth [] = some w → exec .commandByteTaken s =
        .next { u with port := { u.port with openCmd := some { cmd := c, values := [], acc := 0, got := 0 } } }) ∧
      (Cmd.ofByte b = none → b.msb = true →
        exec .commandByteTaken s = .next (u.replied .unknownCommand []) ∧
        exec .unknownCommand s = .next (u.replied .unknownCommand [])))

/-- PARAMETER_BYTE_TAKEN: a stray byte is discarded and marked; seven bits join the parameter being assembled; the
last byte of the last parameter hands the command over (R165, R167). -/
def Obligations.ParameterBytes : Prop :=
  ∀ (s : State) (b : Byte) (rest : List Byte), PortTakes s → s.port.rx = b :: rest → b.msb = false →
    (s.port.openCmd = none →
      exec .parameterByteTaken s = .next { s with port := { s.port with rx := rest, stray := true } }) ∧
    (∀ o w, s.port.openCmd = some o → o.cmd.nextWidth o.values = some w →
      let v := 128 * o.acc + b.toNat
      (o.got + 1 < w → exec .parameterByteTaken s =
        .next { s with port := { s.port with rx := rest, openCmd := some { o with acc := v, got := o.got + 1 } } }) ∧
      (w ≤ o.got + 1 → ∀ w', o.cmd.nextWidth (o.values ++ [v]) = some w' → exec .parameterByteTaken s =
        .next { s with port := { s.port with rx := rest,
                                             openCmd := some { o with values := o.values ++ [v], acc := 0, got := 0 } } }) ∧
      (w ≤ o.got + 1 → o.cmd.nextWidth (o.values ++ [v]) = none → exec .parameterByteTaken s =
        .next (State.handOver o.cmd (o.values ++ [v]) { s with port := { s.port with rx := rest, openCmd := none } })))

/-- REPLY_PLACE and REPLY_SENT: a reply is placed whole or waits; its first byte carries the status and both
indications, which placing clears; the oldest reply leaves first, after a waiting one that has room is placed (R167,
R168, R169, R180). That a reply leaves the buffer as a whole at REPLY_SENT, and takes up its room until then, is the
model's choice (log 14), and so is that REPLY_SENT first places the waiting replies that have room (log 5). While a reply
waits for room no byte is taken (R169); that a command row, whose command is given directly, is not taken then either is
log 5. The status codes are those of R180. -/
def Obligations.RepliesPlacedAndSent : Prop :=
  [Status.done, .doneClamped, .doneCut, .partialDone, .refusedState, .refusedValue, .notHere, .notParked,
    .unknownCommand].map Status.code = [0, 1, 2, 3, 4, 5, 6, 7, 8] ∧
  (∀ (s : State) (w : Reply) (ws : List Reply), s.port.waiting = w :: ws →
    512 < (s.port.placed.map List.length).sum + w.data.length + 1 →
    exec .commandByteTaken s = .next s ∧ exec .parameterByteTaken s = .next s ∧ exec .unknownCommand s = .next s ∧
    ∀ c cmd vals, commandOf c = some (cmd, vals) → exec c s = .next s) ∧
  ∀ s : State, s.pins.resetHeld = false →
    (s.port.waiting = [] → exec .replyPlace s = .next s) ∧
    (∀ r rest, s.port.waiting = r :: rest →
      ((s.port.placed.map List.length).sum + r.data.length + 1 ≤ 512 →
        ∃ h : Byte, h.toNat = 128 + r.status.code + (if s.port.overrun then 16 else 0) + (if s.port.stray then 32 else 0) ∧
          exec .replyPlace s =
            .next { s with port := { s.port with waiting := rest, placed := s.port.placed ++ [h :: r.data],
                                                 overrun := false, stray := false } }) ∧
      (512 < (s.port.placed.map List.length).sum + r.data.length + 1 → exec .replyPlace s = .next s)) ∧
    (s.port.waiting = [] → s.port.placed = [] → exec .replySent s = .next s) ∧
    (∀ r rest, s.port.waiting = [] → s.port.placed = r :: rest → s.port.restarting = false ∨ rest ≠ [] →
      exec .replySent s = .next { s with port := { s.port with placed := rest } }) ∧
    (∀ w ws, s.port.waiting = w :: ws →
      ((s.port.placed.map List.length).sum + w.data.length + 1 ≤ 512 →
        ∀ u, exec .replyPlace s = .next u → exec .replySent s = exec .replySent u) ∧
      (∀ r rest, 512 < (s.port.placed.map List.length).sum + w.data.length + 1 → s.port.placed = r :: rest →
        exec .replySent s = .next { s with port := { s.port with placed := rest } }))

/-- A host command handed over, complete or broken, goes to its owner in the states in which it is taken, and is
answered REFUSED_STATE with no data in the others; the table of R170. -/
def Obligations.CommandsByState : Prop :=
  (∀ (i : Instr) (c : Cmd) (vals : List Nat) (s : State), PortFree s → commandOf i = some (c, vals) →
    (c.takenIn s.ctl.state = true → exec i s = .next ((c.run vals s).1.queueReply (c.run vals s).2)) ∧
    (c.takenIn s.ctl.state = false → exec i s = .next (s.replied .refusedState []))) ∧
  (∀ (c : Cmd) (vals : List Nat) (s : State),
    (c.takenIn s.ctl.state = true → State.handOver c vals s = (c.run vals s).1.queueReply (c.run vals s).2) ∧
    (c.takenIn s.ctl.state = false → State.handOver c vals s = s.replied .refusedState [])) ∧
  (∀ (c : Cmd) (st : StationState), c.takenIn st = true ↔
    (c ∈ [Cmd.setStation, .setTuning, .mapWindow, .mapSegment, .mapSeal, .mapClear, .tagWindow, .tagWrite, .windowWrite,
          .craneList] ∧ st = .config) ∨
    (c = .start ∧ (st = .config ∨ st = .offLine)) ∨
    (c ∈ [Cmd.setPosition, .route, .routeClear, .setLoad, .setPriority, .bayControl, .stillControl, .clearPeer, .leave] ∧
      (st = .joining ∨ st = .run)) ∨
    c ∈ [Cmd.restart, .readStatus, .readGuidance, .readPosition, .readRoute, .readClaims, .readPeer, .readBays,
         .readCounters, .readEvents])

/-- What each owner does with a broken command (R6, R8, R10, R14, R37, R39, R50, R125, R161, R162, R166): before its first
parameter nothing but, past a window, a write's disregard; later the complete parameters are applied over the former
values, and a failing check refuses (log 24). The reply is PARTIAL with the count of complete parameters; for the data
after the count the model's reading is log 9, for ROUTE before its first id log 13. -/
def Obligations.BrokenCommands : Prop :=
  ∀ s : State,
    let broken (n : Nat) (data : List Byte) : Option Reply := some { status := .partialDone, data := pack 2 n ++ data }
    let refused : State × Option Reply := (s, some { status := .refusedValue, data := [] })
    let asBroken (n : Nat) (r : State × Option Reply) : State × Option Reply :=
      (r.1, r.2.map (fun x => if x.status = .refusedValue ∨ x.status = .notHere then x
        else { status := .partialDone, data := pack 2 n ++ x.data }))
    let missed (c : Cursor) : Cursor := { c with disregard := min (c.disregard + 1) 65535 }
    let counts (c : Cursor) : List Byte := pack 2 c.counter ++ pack 3 c.disregard
    (∀ (c : Cmd) (w : Nat), c.nextWidth [] = some w → c ≠ .tagWrite → c ≠ .windowWrite →
      (c.run [] s).1 = s ∧ ∃ data, (c.run [] s).2 = broken 0 data) ∧
    (let tc := if s.map.tagCursor.last < s.map.tagCursor.counter then missed s.map.tagCursor else s.map.tagCursor
     let wc := if s.map.winCursor.last < s.map.winCursor.counter then missed s.map.winCursor else s.map.winCursor
     Cmd.tagWrite.run [] s = ({ s with map := { s.map with tagCursor := tc } }, broken 0 (counts tc)) ∧
     Cmd.windowWrite.run [] s = ({ s with map := { s.map with winCursor := wc } }, broken 0 (counts wc))) ∧
    (∀ id, Cmd.setStation.run [id] s =
      if 1 ≤ id ∧ id ≤ 62 then ({ s with ctl := { s.ctl with id := id } }, broken 1 []) else refused) ∧
    (∀ i, (∀ v, s.ctl.tuning[i]? = some v → Cmd.setTuning.run [i] s = (s, broken 1 (pack 1 i ++ packSigned 3 v))) ∧
      (s.ctl.tuning[i]? = none → Cmd.setTuning.run [i] s = (s, broken 1 []))) ∧
    (∀ vals, vals.length < 11 → Cmd.mapSegment.run vals s = (s, broken vals.length (counts s.map.segCursor))) ∧
    (∀ a, (Cmd.mapWindow.run [a] s = if a ≤ 1022 then
        ({ s with map := { s.map with segCursor :=
          { first := a, last := s.map.segCursor.last, counter := a, disregard := 0 } } }, broken 1 []) else refused) ∧
      Cmd.tagWindow.run [a] s = if a ≤ 511 then
        ({ s with map := { s.map with tagCursor :=
          { first := a, last := s.map.tagCursor.last, counter := a, disregard := 0 } } }, broken 1 []) else refused) ∧
    (∀ id rest, rest.length < 2 →
      let c := s.map.tagCursor
      let old := (tableGet c.counter s.map.tags).getD { tagId := 0, segment := 1023, offset := 0 }
      let draft : Tag := { tagId := id, segment := rest.getD 0 old.segment, offset := rest.getD 1 old.offset }
      let ok := draft.tagId ≤ 16777215 ∧ draft.segment ≤ 1023 ∧ draft.offset ≤ 65535
      (c.last < c.counter → Cmd.tagWrite.run (id :: rest) s =
        ({ s with map := { s.map with tagCursor := missed c } }, broken (rest.length + 1) (counts (missed c)))) ∧
      (c.counter ≤ c.last → ¬ ok → Cmd.tagWrite.run (id :: rest) s = refused) ∧
      (c.counter ≤ c.last → ok → ∃ m : MapStore,
        Cmd.tagWrite.run (id :: rest) s =
          ({ s with map := m }, broken (rest.length + 1) (pack 2 (c.counter + 1) ++ pack 3 c.disregard)) ∧
        m.isSealed = false ∧ m.tagCursor = { c with counter := c.counter + 1 } ∧
        tableGet c.counter m.tags = (if id = 0 then none else some draft) ∧
        (∀ j, j ≠ c.counter → tableGet j m.tags = tableGet j s.map.tags) ∧
        { m with tags := s.map.tags, tagCursor := c, isSealed := s.map.isSealed } = s.map)) ∧
    (∀ g rest, rest.length < 3 →
      let c := s.map.winCursor
      let old := (tableGet c.counter s.map.windows).getD { segment := 1023, start := 0, stop := 0, ceiling := 0 }
      let draft : SlowWindow :=
        { segment := g, start := rest.getD 0 old.start, stop := rest.getD 1 old.stop, ceiling := rest.getD 2 old.ceiling }
      let ok := draft.segment ≤ 1023 ∧ draft.start ≤ 65535 ∧ draft.stop ≤ 65535 ∧ draft.ceiling ≤ 1000
      (c.last < c.counter → Cmd.windowWrite.run (g :: rest) s =
        ({ s with map := { s.map with winCursor := missed c } }, broken (rest.length + 1) (counts (missed c)))) ∧
      (c.counter ≤ c.last → ¬ ok → Cmd.windowWrite.run (g :: rest) s = refused) ∧
      (c.counter ≤ c.last → ok → ∃ m : MapStore,
        Cmd.windowWrite.run (g :: rest) s =
          ({ s with map := m }, broken (rest.length + 1) (pack 2 (c.counter + 1) ++ pack 3 c.disregard)) ∧
        m.isSealed = false ∧ m.winCursor = { c with counter := c.counter + 1 } ∧
        tableGet c.counter m.windows = (if g = 1023 then none else some draft) ∧
        (∀ j, j ≠ c.counter → tableGet j m.windows = tableGet j s.map.windows) ∧
        { m with windows := s.map.windows, winCursor := c, isSealed := s.map.isSealed } = s.map)) ∧
    (∀ k rest, rest.length < 8 →
      let ids := rest.take k
      let ok := k ≤ 8 ∧ (∀ c ∈ ids, 1 ≤ c ∧ c ≤ 15) ∧ ids.Nodup
      (¬ ok ∨ ids = s.map.cranes → Cmd.craneList.run (k :: rest) s = (s, broken (rest.length + 1) [])) ∧
      (ok → ids ≠ s.map.cranes → Cmd.craneList.run (k :: rest) s =
        ({ s with map := { s.map with cranes := ids, isSealed := false },
                  bays := { s.bays with cranes := ids.map (fun c =>
                    { id := c, heardAt := none, silent := false,
                      bays := List.replicate 4
                        { state := .unknown, source := .snoop, overrideOpen := false, segment := 1023 } }) } },
         broken (rest.length + 1) []))) ∧
    (∀ seg off, Cmd.setPosition.run [seg, off] s =
        asBroken 2 (Cmd.setPosition.run [seg, off, s.pos.formerSign.code] s) ∧
      Cmd.setPosition.run [seg] s = asBroken 1 (Cmd.setPosition.run [seg, s.pos.formerOffset, s.pos.formerSign.code] s)) ∧
    (∀ sign n, sign ≤ 1 → n ≠ 0 →
      (∀ vals ∈ [[0], [0, sign], [0, sign, n]], Cmd.route.run vals s = (s, broken vals.length [0#8, 0#8, 0#8])) ∧
      (∀ vals ∈ [[1], [1, n]], Cmd.route.run vals s = if s.route.entries = []
        then (s, some { status := .notHere, data := [] }) else (s, broken vals.length [0#8, 0#8, 0#8])) ∧
      (∀ ids more, ids ≠ [] → (ids.length ≤ n ∧ more = []) ∨ (ids.length = n ∧ ∃ sp, sp ≤ 1 ∧ more = [sp]) →
        Cmd.route.run (0 :: sign :: n :: (ids ++ more)) s =
          asBroken (3 + ids.length + more.length) (Cmd.route.run (0 :: sign :: ids.length :: (ids ++ [0, 0])) s) ∧
        Cmd.route.run (1 :: n :: (ids ++ more)) s =
          asBroken (2 + ids.length + more.length) (Cmd.route.run (1 :: ids.length :: (ids ++ [0, 0])) s))) ∧
    (∀ f, Cmd.stillControl.run [f] s =
      asBroken 1 (Cmd.stillControl.run [f, if s.pos.detect then 1 else 0] s)) ∧
    (∀ snoop, Cmd.bayControl.run [snoop] s = asBroken 1 (Cmd.bayControl.run [snoop, 0, 2, 2, 2, 2] s) ∧
      ∀ crane ov, ov.length < 4 → Cmd.bayControl.run (snoop :: crane :: ov) s =
        asBroken (ov.length + 2) (Cmd.bayControl.run (snoop :: crane :: (ov ++ List.replicate (4 - ov.length) 2)) s))

/-- A parameter of g bytes: its groups are g bytes with the top bit clear, and assembling them gives it back
(R165, R179). -/
def Obligations.ParameterPacking : Prop :=
  ∀ (g v : Nat), v < 128 ^ g →
    (groups g v).length = g ∧ (∀ b ∈ groups g v, b.msb = false) ∧
    ∀ o : OpenCommand, o.acc = 0 → o.got = 0 →
      (groups g v).foldl (fun o b => o.addByte b) o = { o with acc := v, got := g }

/-! ### Identity and tuning -/

/-- SET_STATION (R161). The present direction of the guidance record is not formed anew (the model's reading, log 18). -/
def Obligations.SetStation : Prop :=
  ∀ (s : State) (id o : Nat), PortFree s → s.ctl.state = .config →
    (1 ≤ id → id ≤ 62 → o ≤ 1 → exec (.setStation id o) s =
      .next ({ s with ctl := { s.ctl with id := id, orientation := if o = 0 then .along else .against } }.replied .done [])) ∧
    (id < 1 ∨ 62 < id ∨ 1 < o → exec (.setStation id o) s = .next (s.replied .refusedValue []))

/-- SET_TUNING: the value stored is the given one clamped to its range, a class ceiling's range ends at Vmax, a lower
Vmax lowers the class ceilings above it (R162), and the effective motion follows the still count limit at once, a change
of it reported (R36, R37; without a change nothing is formed anew, the model's reading, log 18). A position report's order at
the Guidance Unit is free (log 7), its trim after the Claim Unit's event is the model's choice (log 34). -/
def Obligations.SetTuning : Prop :=
  ∀ (s : State) (i v : Nat), PortFree s → s.ctl.state = .config → s.ctl.tuning.length = 47 →
    (Config.tuningTable[i]? = none → exec (.setTuning i v) s = .next (s.replied .refusedValue [])) ∧
    (∀ r, Config.tuningTable[i]? = some r →
      let hi : Int := if 32 ≤ i ∧ i ≤ 39 then s.ctl.tuning.getD 30 0 else r.hi
      let given : Int := if i = 43 then signed21 v else v
      let x := max r.lo (min hi given)
      ∃ (tn : List Int) (u : State),
        exec (.setTuning i v) s =
          .next (u.replied (if x = given then .done else .doneClamped) (groups 1 i ++ packSigned 3 x)) ∧
        (let motion : Motion :=
          if s.pos.force then .still
          else if s.pos.detect then (if (tn.getD 9 0).toNat ≤ s.pos.stillCount then .still else .moving) else .moving
         (motion = s.pos.motion → u = { s with ctl := { s.ctl with tuning := tn } }) ∧
         (motion ≠ s.pos.motion →
           u = State.reportPosition { s with ctl := { s.ctl with tuning := tn }, pos := { s.pos with motion := motion } }) ∧
         ReportFrame { s with ctl := { s.ctl with tuning := tn }, pos := { s.pos with motion := motion } } u) ∧
        tn.length = 47 ∧ tn[i]? = some x ∧
        (i ≠ 30 → ∀ j, j ≠ i → tn[j]? = s.ctl.tuning[j]?) ∧
        (i = 30 → ∀ j, j ≠ i → tn[j]? = (s.ctl.tuning[j]?).map (fun c => if 32 ≤ j ∧ j ≤ 39 then min c x else c)))

/-! ### The map -/

/-- MAP_WINDOW and TAG_WINDOW (R8). -/
def Obligations.MapWindows : Prop :=
  ∀ (s : State) (a b : Nat), PortFree s → s.ctl.state = .config →
    (a ≤ 1022 → b ≤ 1022 → a ≤ b → exec (.mapWindow a b) s =
      .next ({ s with map := { s.map with segCursor := { first := a, last := b, counter := a, disregard := 0 } } }.replied
        .done [])) ∧
    (1022 < a ∨ 1022 < b ∨ b < a → exec (.mapWindow a b) s = .next (s.replied .refusedValue [])) ∧
    (a ≤ 511 → b ≤ 511 → a ≤ b → exec (.tagWindow a b) s =
      .next ({ s with map := { s.map with tagCursor := { first := a, last := b, counter := a, disregard := 0 } } }.replied
        .done [])) ∧
    (511 < a ∨ 511 < b ∨ b < a → exec (.tagWindow a b) s = .next (s.replied .refusedValue []))

/-- MAP_SEGMENT: disregarded past the window, refused outside a write-time limit, else the slot at the counter is
written or emptied and no other slot changes (R9, R11). -/
def Obligations.MapSegmentWrite : Prop :=
  ∀ (s : State) (len cls kind a b c0 c1 c2 c3 crane bay : Nat), PortFree s → s.ctl.state = .config →
    let c := s.map.segCursor
    let ok := len ≤ 65535 ∧ cls ≤ 7 ∧ kind ≤ 3 ∧ a ≤ 1023 ∧ b ≤ 1023 ∧ c0 ≤ 1023 ∧ c1 ≤ 1023 ∧ c2 ≤ 1023 ∧ c3 ≤ 1023 ∧
      (kind = 2 → 1 ≤ crane ∧ crane ≤ 15 ∧ bay ≤ 3)
    let record : Segment :=
      { length := len, cls := cls, nodeA := a, nodeB := b, conflicts := [c0, c1, c2, c3],
        kind := if kind = 0 then .lane else if kind = 1 then .cross else if kind = 2 then .bay crane bay else .park }
    let row := Instr.mapSegment len cls kind a b c0 c1 c2 c3 crane bay
    (c.last < c.counter → exec row s =
      .next ({ s with map := { s.map with segCursor := { c with disregard := min (c.disregard + 1) 65535 } } }.replied
        .doneCut (pack 2 c.counter ++ pack 3 (min (c.disregard + 1) 65535)))) ∧
    (c.counter ≤ c.last → ¬ ok → exec row s = .next (s.replied .refusedValue [])) ∧
    (c.counter ≤ c.last → ok → ∃ m : MapStore,
      exec row s = .next ({ s with map := m }.replied .done (pack 2 (c.counter + 1) ++ pack 3 c.disregard)) ∧
      m.isSealed = false ∧ m.segCursor = { c with counter := c.counter + 1 } ∧
      tableGet c.counter m.segments = (if len = 0 then none else some record) ∧
      (∀ j, j ≠ c.counter → tableGet j m.segments = tableGet j s.map.segments) ∧
      { m with segments := s.map.segments, segCursor := c, isSealed := s.map.isSealed } = s.map)

/-- TAG_WRITE and WINDOW_WRITE: the same four cases on their tables (R9, R11). -/
def Obligations.TagAndWindowWrites : Prop :=
  ∀ (s : State) (id seg off start stop w : Nat), PortFree s → s.ctl.state = .config →
    let c := s.map.tagCursor
    let d := s.map.winCursor
    let tagOk := id ≤ 16777215 ∧ seg ≤ 1023 ∧ off ≤ 65535
    let winOk := seg ≤ 1023 ∧ start ≤ 65535 ∧ stop ≤ 65535 ∧ w ≤ 1000
    (c.last < c.counter → exec (.tagWrite id seg off) s =
      .next ({ s with map := { s.map with tagCursor := { c with disregard := min (c.disregard + 1) 65535 } } }.replied
        .doneCut (pack 2 c.counter ++ pack 3 (min (c.disregard + 1) 65535)))) ∧
    (c.counter ≤ c.last → ¬ tagOk → exec (.tagWrite id seg off) s = .next (s.replied .refusedValue [])) ∧
    (c.counter ≤ c.last → tagOk → ∃ m : MapStore,
      exec (.tagWrite id seg off) s =
        .next ({ s with map := m }.replied .done (pack 2 (c.counter + 1) ++ pack 3 c.disregard)) ∧
      m.isSealed = false ∧ m.tagCursor = { c with counter := c.counter + 1 } ∧
      tableGet c.counter m.tags = (if id = 0 then none else some { tagId := id, segment := seg, offset := off }) ∧
      (∀ j, j ≠ c.counter → tableGet j m.tags = tableGet j s.map.tags) ∧
      { m with tags := s.map.tags, tagCursor := c, isSealed := s.map.isSealed } = s.map) ∧
    (d.last < d.counter → exec (.windowWrite seg start stop w) s =
      .next ({ s with map := { s.map with winCursor := { d with disregard := min (d.disregard + 1) 65535 } } }.replied
        .doneCut (pack 2 d.counter ++ pack 3 (min (d.disregard + 1) 65535)))) ∧
    (d.counter ≤ d.last → ¬ winOk → exec (.windowWrite seg start stop w) s = .next (s.replied .refusedValue [])) ∧
    (d.counter ≤ d.last → winOk → ∃ m : MapStore,
      exec (.windowWrite seg start stop w) s =
        .next ({ s with map := m }.replied .done (pack 2 (d.counter + 1) ++ pack 3 d.disregard)) ∧
      m.isSealed = false ∧ m.winCursor = { d with counter := d.counter + 1 } ∧
      tableGet d.counter m.windows =
        (if seg = 1023 then none else some { segment := seg, start := start, stop := stop, ceiling := w }) ∧
      (∀ j, j ≠ d.counter → tableGet j m.windows = tableGet j s.map.windows) ∧
      { m with windows := s.map.windows, winCursor := d, isSealed := s.map.isSealed } = s.map)

/-- CRANE_LIST: the whole list is replaced after its checks, the Bay Table is arranged afresh where the list has
changed, and a list that is the same stays sealed (R6, R11, R120). That the rearrangement is not reported under R128 and
forms no guidance record anew is the model's reading (log 18). -/
def Obligations.CraneListWrite : Prop :=
  ∀ (s : State) (k c0 c1 c2 c3 c4 c5 c6 c7 : Nat), PortFree s → s.ctl.state = .config →
    let ids := [c0, c1, c2, c3, c4, c5, c6, c7].take k
    let ok := k ≤ 8 ∧ (∀ c ∈ ids, 1 ≤ c ∧ c ≤ 15) ∧ ids.Nodup
    let fresh (c : Nat) : Crane :=
      { id := c, heardAt := none, silent := false,
        bays := List.replicate 4 { state := .unknown, source := .snoop, overrideOpen := false, segment := 1023 } }
    let row := Instr.craneList k c0 c1 c2 c3 c4 c5 c6 c7
    (¬ ok → exec row s = .next (s.replied .refusedValue [])) ∧
    (ok → ids = s.map.cranes → exec row s = .next (s.replied .done [])) ∧
    (ok → ids ≠ s.map.cranes → exec row s =
      .next ({ s with map := { s.map with cranes := ids, isSealed := false },
                      bays := { s.bays with cranes := ids.map fresh } }.replied .done []))

/-- MAP_SEAL and MAP_SEAL_WALK_END: a sealed map is answered at once; another is walked, and the walk's end seals it with
its counts or refuses it with the first failing check (R12, R13, R120). Meanwhile host bytes wait in the receive buffer
(R12), and a command row, whose command is given directly, is not taken (the model's choice, log 5). At the end the Bay
Table is arranged afresh, its switch and counters kept (R120); that this is not reported under R128 and forms no guidance
record anew is the model's reading (log 18). -/
def Obligations.MapSealing : Prop :=
  ∀ s : State,
    let counts := pack 2 s.map.segments.length ++ pack 1 s.map.windows.length ++ pack 2 s.map.tags.length
    (PortFree s → s.ctl.state = .config →
      (s.map.isSealed = true → exec .mapSeal s = .next (s.replied .done counts)) ∧
      (s.map.isSealed = false → exec .mapSeal s = .next { s with map := { s.map with sealing := true } })) ∧
    (s.map.sealing = true → (∀ i c vals, commandOf i = some (c, vals) → exec i s = .next s) ∧
      exec .commandByteTaken s = .next s ∧ exec .parameterByteTaken s = .next s ∧ exec .unknownCommand s = .next s) ∧
    (s.pins.resetHeld = false → s.map.sealing = false → exec .mapSealWalkEnd s = .next s) ∧
    (s.pins.resetHeld = false → s.map.sealing = true →
      (∀ f, s.map.sealFault = some f → exec .mapSealWalkEnd s =
        .next ({ s with map := { s.map with sealing := false } }.replied .refusedValue
          (pack 1 f.table ++ pack 2 f.record ++ pack 1 f.reason))) ∧
      (s.map.sealFault = none → exec .mapSealWalkEnd s = .next ({ s with
          map := { s.map with sealing := false, isSealed := true },
          bays := { s.bays with cranes := s.map.cranes.map (fun c =>
            { id := c, heardAt := none, silent := false,
              bays := [0, 1, 2, 3].map (fun i => { state := .unknown, source := .snoop, overrideOpen := false,
                                                   segment := s.map.baySegment c i }) }) } }.replied .done counts)))

/-- The checks of MAP SEAL: no check fails exactly when every record meets the seal ranges, and else the first failing
check of the walk names its table, its record and its reason: the whole map, then the segments, the slow windows and the
tags in their order, and the checks of one record in theirs (R12, R13). And the lookups in the map: a segment by its id
(R2), adjacency (R3), the conflict set (R4), the slow windows of a segment (R5), a tag (R7), a bay's segment (R120; of two
on a map not sealed the lowest id, the model's choice, log 26). -/
def Obligations.SealChecks : Prop :=
  (∀ (m : MapStore) (v w : Nat),
    (tableWf m.segments = true → ∀ g, m.segment w = some g ↔ w < 1023 ∧ (w, g) ∈ m.segments) ∧
    (m.present w = true ↔ ∃ g, m.segment w = some g) ∧ (∀ g, m.segment w = some g → m.lengthOf w = g.length) ∧
    (v = w ∨ m.present v = false ∨ m.present w = false → m.adjacency v w = .none) ∧
    (∀ a b, v ≠ w → m.segment v = some a → m.segment w = some b →
      let onA : Prop := b.nodeA = a.nodeA ∨ b.nodeA = a.nodeB
      let onB : Prop := b.nodeB = a.nodeA ∨ b.nodeB = a.nodeB
      (onA → onB → m.adjacency v w = .both) ∧ (onA → ¬ onB → m.adjacency v w = .nodeA) ∧
      (¬ onA → onB → m.adjacency v w = .nodeB) ∧ (¬ onA → ¬ onB → m.adjacency v w = .none)) ∧
    (v ∈ m.conflictSet w ↔
      v = w ∨ ∃ a b, m.segment v = some a ∧ m.segment w = some b ∧ (w ∈ a.conflicts ∨ v ∈ b.conflicts)) ∧
    (tableWf m.segments = true → (m.conflictSet w).Nodup) ∧
    m.windowsOn w = (m.windows.filter (fun p => decide (p.2.segment = w))).map (fun p => p.2) ∧
    (∀ t, m.tag w = some t → t.tagId = w ∧ ∃ slot, (slot, t) ∈ m.tags) ∧
    (m.tag w = none ↔ ∀ p ∈ m.tags, p.2.tagId ≠ w) ∧
    (∀ p ∈ m.segments, tableWf m.segments = true → p.2.kind = .bay v w →
      (∀ q ∈ m.segments, q.2.kind = .bay v w → p.1 ≤ q.1) → m.baySegment v w = p.1) ∧
    ((∀ p ∈ m.segments, p.2.kind ≠ .bay v w) → m.baySegment v w = 1023)) ∧
  ∀ m : MapStore,
    let segmentFails (p : Nat × Segment) (reason : Nat) : Prop :=
      (reason = 1 ∧ ¬ (500 ≤ p.2.length ∧ p.2.length ≤ 20000)) ∨ (reason = 2 ∧ p.2.nodeA = p.2.nodeB) ∨
      (reason = 3 ∧ ∃ c ∈ p.2.conflicts, c ≠ 1023 ∧ m.present c = false) ∨
      (reason = 4 ∧ ∃ crane bay, p.2.kind = .bay crane bay ∧ crane ∉ m.cranes) ∨
      (reason = 5 ∧ ∃ crane bay, p.2.kind = .bay crane bay ∧ ∃ q ∈ m.segments, q.1 < p.1 ∧ q.2.kind = .bay crane bay)
    let windowFails (p : Nat × SlowWindow) (reason : Nat) : Prop :=
      (reason = 6 ∧ m.present p.2.segment = false) ∨
      (reason = 7 ∧ ¬ (p.2.start < p.2.stop ∧ p.2.stop ≤ m.lengthOf p.2.segment))
    let tagFails (p : Nat × Tag) (reason : Nat) : Prop :=
      (reason = 8 ∧ m.present p.2.segment = false) ∨ (reason = 9 ∧ m.lengthOf p.2.segment < p.2.offset) ∨
      (reason = 10 ∧ ∃ q ∈ m.tags, q.1 < p.1 ∧ q.2.tagId = p.2.tagId)
    let segmentsPass : Prop := m.segments ≠ [] ∧ ∀ p ∈ m.segments, ∀ r, ¬ segmentFails p r
    let windowsPass : Prop := segmentsPass ∧ ∀ p ∈ m.windows, ∀ r, ¬ windowFails p r
    (m.sealFault = none ↔ windowsPass ∧ ∀ p ∈ m.tags, ∀ r, ¬ tagFails p r) ∧
    (m.segments = [] → m.sealFault = some { table := 0, record := 1023, reason := 0 }) ∧
    (∀ pre p post r, m.segments = pre ++ p :: post → (∀ q ∈ pre, ∀ r, ¬ segmentFails q r) → segmentFails p r →
      (∀ r' < r, ¬ segmentFails p r') → m.sealFault = some { table := 1, record := p.1, reason := r }) ∧
    (segmentsPass → ∀ pre p post r, m.windows = pre ++ p :: post → (∀ q ∈ pre, ∀ r, ¬ windowFails q r) →
      windowFails p r → (∀ r' < r, ¬ windowFails p r') →
      m.sealFault = some { table := 2, record := p.1, reason := r }) ∧
    (windowsPass → ∀ pre p post r, m.tags = pre ++ p :: post → (∀ q ∈ pre, ∀ r, ¬ tagFails q r) → tagFails p r →
      (∀ r' < r, ¬ tagFails p r') → m.sealFault = some { table := 3, record := p.1, reason := r })

/-- MAP_CLEAR, in CONFIG and elsewhere (R16, R120). That the emptied Bay Table is not reported under R128 and that no
guidance record is formed anew is the model's reading (log 18). -/
def Obligations.MapClear : Prop :=
  ∀ s : State, PortFree s →
    (s.ctl.state = .config → exec .mapClear s =
      .next ({ s with
        map := { segments := [], windows := [], cranes := [], tags := [], isSealed := false, sealing := false,
                 segCursor := { first := 0, last := 1022, counter := 0, disregard := 0 },
                 tagCursor := { first := 0, last := 511, counter := 0, disregard := 0 },
                 winCursor := { first := 0, last := 15, counter := 0, disregard := 0 } },
        bays := { s.bays with cranes := [] } }.replied .done [])) ∧
    (s.ctl.state ≠ .config → exec .mapClear s = .next (s.replied .refusedState []))

/-! ### The life cycle -/

/-- START and JOIN_LISTEN_EXPIRY: START's two checks in CONFIG, none in OFF-LINE; taken, the station is JOINING with its
join timer, cadence and countdown started, and the change of state is an event of the Claim Unit, with an examination, that
starts with the last reported lists empty; at the timer's run-out JOINING becomes RUN, with the same examination (R75, R99,
R103, R115, R116, R157, R158). The Scheduler's start before the Claim Unit's event is the model's reading (log 17); the
order at the Guidance Unit is free (log 7). That a timer's row moves the clock up to its run-out is the model's choice
(log 3). -/
def Obligations.StartAndJoinListen : Prop :=
  ∀ s : State,
    (PortFree s →
      (s.ctl.state = .config → (s.ctl.id < 1 ∨ 62 < s.ctl.id) → exec .start s = .next (s.replied .refusedValue [0#8])) ∧
      (s.ctl.state = .config → 1 ≤ s.ctl.id → s.ctl.id ≤ 62 → s.map.isSealed = false →
        exec .start s = .next (s.replied .refusedValue [1#8])) ∧
      ((s.ctl.state = .config ∧ 1 ≤ s.ctl.id ∧ s.ctl.id ≤ 62 ∧ s.map.isSealed = true) ∨ s.ctl.state = .offLine →
        let started := { s with
          ctl := { s.ctl with state := .joining, joinTimer := some (s.clock + 1000 * s.joinListen) },
          sched := { s.sched with
            slotIndex := s.ctl.id % 8, cadence := some (s.clock + 1000 * s.slotInterval (s.ctl.id % 8)),
            freshStart := 3, nearCount := 0, window := none, guard := none, pendingNotice := false } }
        ∃ u : State, exec .start s = .next (u.replied .done []) ∧ u.guide = u.guidance ∧
          u = started.guided (fun t => (claimEvent
            (fun v => ({ v with claim := { v.claim with lastHeld := [], lastWanted := [] } }, [])) true t).1) ∧
          ReportFrame started u)) ∧
    (s.pins.resetHeld = false →
      (∀ due, s.ctl.state = .joining → s.ctl.joinTimer = some due →
        let running := { s with clock := max s.clock due, ctl := { s.ctl with state := .run, joinTimer := none } }
        ∃ t : State, exec .joinListenExpiry s = .next t ∧ t.guide = t.guidance ∧
          t = running.guided (fun u => (claimEvent (fun v => (v, [])) true u).1) ∧ ReportFrame running t) ∧
      (s.ctl.state ≠ .joining ∨ s.ctl.joinTimer = none → exec .joinListenExpiry s = .next s))

/-- LEAVE: the parked test, and what departure leaves: the Claim Unit's event that clears its list and its records, then the
entry to LEAVING at the Notice Scheduler, with a LEAVE notice in the slot and one that waited there counted as replaced; the
suspensions and the class as they were; both lines low and PERMIT_DROP exactly where the permit line was high (R60, R74, R97,
R104, R115, R117, R150, R159). The order at the Guidance Unit is free (log 7). -/
def Obligations.LeaveDeparts : Prop :=
  ∀ s : State, PortFree s → s.ctl.state = .joining ∨ s.ctl.state = .run →
    (s.parked = true ↔ ∃ b, s.body = some b ∧ 0 ≤ b.rear ∧ b.front ≤ s.routeLength ∧
      (∀ p ∈ s.spans, b.on p.start p.stop = true → ∃ g, s.map.segment p.seg = some g ∧ g.kind = .park) ∧
      (∀ e ∈ s.claim.list, e.tie = .detached → b.on e.spanStart (s.claimStop e) = true →
        ∃ g, s.map.segment e.seg = some g ∧ g.kind = .park)) ∧
    (s.parked = false → exec .leave s = .next (s.replied .notParked [])) ∧
    (s.parked = true → ∃ u : State, exec .leave s = .next (u.replied .done []) ∧
      (let left := { s with ctl := { s.ctl with state := .leaving, joinTimer := none } }
       let v := left.guided (fun t => (claimEvent (fun w =>
         ({ w with claim := { w.claim with list := [], doubles := [], faceOff := none } }, [])) true t).1)
       let n : Notice := .leave s.ctl.id s.sched.sequence
       u = { v with
         link := { s.link with
           slot := some { notice := n, frame := framed n.bytes },
           replaced := if s.link.slot.isSome then min (s.link.replaced + 1) 65535 else s.link.replaced },
         sched := { s.sched with
           cadence := none, window := none, nearCount := 0, leaveCount := 0, pendingNotice := false,
           sequence := (s.sched.sequence + 1) % 256, guard := some (s.clock + 1000 * s.promptGuard) } }) ∧
      u.ctl = { s.ctl with state := .leaving, joinTimer := none } ∧
      u.claim = { s.claim with list := [], doubles := [], faceOff := none, lastHeld := [], lastWanted := [] } ∧
      u.guide.permit = false ∧ u.guide.ceiling = 0 ∧ u.guide.code = 0 ∧
      (PermitLaw s → u.line = { s.line with permit := false, code := 0, pendingCode := 0, high := false } ∧
        ∀ e, u.flag e = (s.flag e || decide (e = .permitDrop ∧ s.line.permit = true))) ∧
      (∃ k ≤ s.pos.index.getD 0, u.route = { s.route with entries := s.route.entries.drop k } ∧
        u.pos = { s.pos with index := s.pos.index.map (fun i => i - k) }) ∧
      u.clock = s.clock ∧ u.pins = s.pins ∧ u.map = s.map ∧ u.odo = s.odo ∧ u.peers = s.peers ∧ u.bays = s.bays ∧
      u.load = s.load ∧ { u.port with flags := s.port.flags } = s.port)

/-! ### Position, route and claims by the host -/

/-- SET_POSITION: refused on an absent segment or a bad sign; else the route is the one entry, the centre stands on
it DOUBTFUL, and the claim list is that entry HELD, with the double-hold record empty, no face-off, the wait-reported mark
clear, and OCCUPY_CONFLICT where a peer holds a segment of its conflict set (R39, R53, R112). The former parameters kept
are those given (the model's choice, log 11); the order at the Guidance Unit is free (log 7). -/
def Obligations.SetPositionSeeds : Prop :=
  ∀ (s : State) (seg off sign : Nat), PortFree s → s.ctl.state = .joining ∨ s.ctl.state = .run →
    (s.map.present seg = false ∨ 1 < sign → exec (.setPosition seg off sign) s = .next (s.replied .refusedValue [])) ∧
    (s.map.present seg = true → sign ≤ 1 →
      let len := s.map.lengthOf seg
      let sg : Sign := if sign = 0 then .plus else .minus
      ∃ u : State, exec (.setPosition seg off sign) s =
          .next (u.replied (if len < off then .doneClamped else .done) []) ∧
        u.guide = u.guidance ∧
        (let seeded := { s with
           route := { entries := [{ seg := seg, sign := sg }], stop := none, armed := false },
           pos := { s.pos with
             index := some 0, offset := if sign = 0 then min off len else len - min off len, quality := .doubtful,
             rejects := 0, sinceFix := 0, lastError := none, formerOffset := off, formerSign := sg },
           odo := { s.odo with residue := 0, uncredited := 0 } }
         ReportFrame seeded u ∧
         u = seeded.guided (fun t => (claimEvent (fun v =>
           ({ v with claim := { v.claim with list := [], doubles := [], faceOff := none, waitReported := false } }, []))
           true t).1)) ∧
        u.claim.doubles = [] ∧ u.claim.faceOff = none ∧ u.claim.waitReported = false ∧
        (0 < s.halfLength → 0 < len → u.claim.list =
            [{ seg := seg, state := .held, tie := .route 0, spanStart := 0, advertised := 0, waitStart := none }] ∧
          (u.flag .occupyConflict = true ↔ s.flag .occupyConflict = true ∨
            ∃ p ∈ s.peers.entries, ∃ h ∈ p.held, h ∈ s.map.conflictSet seg)))

/-- ROUTE_REPLACE: refused values, the anchor, and the route written after it; the stop of a route that was not cut; the
arrival test of the route change (R44, R45, R46, R48, R49, R51, R56, R180). That the reply of a route that was not cut
carries 0 as the cut position is the model's choice (log 35); the order at the Guidance Unit is free (log 7). -/
def Obligations.RouteReplaceWrites : Prop :=
  (∀ s : State, s.reportRoute = s.guided (fun t => (claimEvent ownRouteChange true t.testArrival).1)) ∧
  ∀ (s : State) (sign sp so id : Nat) (ids : List Nat), PortFree s → s.ctl.state = .joining ∨ s.ctl.state = .run →
    let sg : Sign := if sign = 0 then .plus else .minus
    let counts (taken : Nat) (cut : Option (CutReason × Nat)) : List Byte := pack 1 taken ++ match cut with
      | none => [0#8, 0#8]
      | some (.capacity, pos) => pack 1 1 ++ pack 1 pos
      | some (.absent, pos) => pack 1 2 ++ pack 1 pos
      | some (.notAdjacent, pos) => pack 1 3 ++ pack 1 pos
    let written (keep : List RouteEntry) (last : RouteEntry) (t : Taking) : Prop :=
      let final := (t.entries.getLast?).getD last
      let stop : Option Nat := if t.cut = none ∧ sp = 1 then some (min so (s.map.lengthOf final.seg)) else none
      let clamped : Bool := t.cut = none ∧ sp = 1 ∧ s.map.lengthOf final.seg < so
      ∃ u : State, exec (.routeReplace sign (id :: ids) sp so) s =
          .next (u.replied (if t.cut.isSome then .doneCut else if clamped then .doneClamped else .done)
            (counts (t.entries.length + 1) t.cut)) ∧
        u.guide = u.guidance ∧ (t.cut.isSome = true → u.flag .routeCut = true) ∧
        u = (State.raiseIf t.cut.isSome .routeCut { s with
          route := { entries := keep ++ last :: t.entries, stop := stop, armed := stop.isSome } }).reportRoute ∧
        ReportFrame { s with route := { entries := keep ++ last :: t.entries, stop := stop, armed := stop.isSome } } u ∧
        ArrivalTest { s with route := { entries := keep ++ last :: t.entries, stop := stop, armed := stop.isSome } } u
    (1 < sign ∨ 1 < sp → exec (.routeReplace sign (id :: ids) sp so) s = .next (s.replied .refusedValue [])) ∧
    exec (.routeReplace sign [] sp so) s = .next (s.replied .refusedValue []) ∧
    (sign ≤ 1 → sp ≤ 1 → s.pos.quality = .none →
      (s.map.present id = false →
        exec (.routeReplace sign (id :: ids) sp so) s = .next (s.replied .refusedValue [])) ∧
      (s.map.present id = true →
        written [] { seg := id, sign := sg } (takeIds s.map 31 2 { seg := id, sign := sg } ids))) ∧
    (sign ≤ 1 → sp ≤ 1 → s.pos.quality ≠ .none → ∀ i cur, s.pos.index = some i → s.route.entries[i]? = some cur →
      (id ≠ cur.seg ∨ sg ≠ cur.sign →
        exec (.routeReplace sign (id :: ids) sp so) s = .next (s.replied .notHere [])) ∧
      (id = cur.seg → sg = cur.sign →
        written (s.route.entries.take i) cur (takeIds s.map (32 - (i + 1)) 2 cur ids)))

/-- ROUTE_APPEND: after the last entry held, with the former stop dropped, and the arrival test of the route change (R44,
R47, R48, R49, R51, R56, R180). That the reply of a route that was not cut carries 0 as the cut position is the model's
choice (log 35). -/
def Obligations.RouteAppendWrites : Prop :=
  ∀ (s : State) (sp so : Nat) (ids : List Nat), PortFree s → s.ctl.state = .joining ∨ s.ctl.state = .run →
    let counts (taken : Nat) (cut : Option (CutReason × Nat)) : List Byte := pack 1 taken ++ match cut with
      | none => [0#8, 0#8]
      | some (.capacity, pos) => pack 1 1 ++ pack 1 pos
      | some (.absent, pos) => pack 1 2 ++ pack 1 pos
      | some (.notAdjacent, pos) => pack 1 3 ++ pack 1 pos
    (1 < sp ∨ ids = [] → exec (.routeAppend ids sp so) s = .next (s.replied .refusedValue [])) ∧
    (sp ≤ 1 → ids ≠ [] → s.route.entries = [] → exec (.routeAppend ids sp so) s = .next (s.replied .notHere [])) ∧
    (sp ≤ 1 → ids ≠ [] → ∀ last, s.route.entries.getLast? = some last →
      let t := takeIds s.map (32 - s.route.entries.length) 1 last ids
      let final := (t.entries.getLast?).getD last
      let stop : Option Nat := if t.cut = none ∧ sp = 1 then some (min so (s.map.lengthOf final.seg)) else none
      let clamped : Bool := t.cut = none ∧ sp = 1 ∧ s.map.lengthOf final.seg < so
      ∃ u : State, exec (.routeAppend ids sp so) s =
          .next (u.replied (if t.cut.isSome then .doneCut else if clamped then .doneClamped else .done)
            (counts t.entries.length t.cut)) ∧
        u.guide = u.guidance ∧ (t.cut.isSome = true → u.flag .routeCut = true) ∧
        u = (State.raiseIf t.cut.isSome .routeCut { s with
          route := { entries := s.route.entries ++ t.entries, stop := stop, armed := stop.isSome } }).reportRoute ∧
        ReportFrame { s with route := { entries := s.route.entries ++ t.entries, stop := stop, armed := stop.isSome } } u ∧
        ArrivalTest { s with route := { entries := s.route.entries ++ t.entries, stop := stop, armed := stop.isSome } } u)

/-- The ids of a ROUTE are taken in order while each continues the entry before it, and the first that fails a test
cuts the route with the reason of that test: no room, an absent segment, or no continuation, which is the segment before it
again or one neither of whose nodes is the joining node (R42, R48). -/
def Obligations.RouteIdsContinue : Prop :=
  ∀ (m : MapStore) (room at' : Nat) (prev : RouteEntry) (ids : List Nat),
    let t := takeIds m room at' prev ids
    t.entries.length ≤ room ∧ t.entries.map (·.seg) = ids.take t.entries.length ∧
    (t.cut = none → t.entries.length = ids.length) ∧
    (∀ k a b, (prev :: t.entries)[k]? = some a → (prev :: t.entries)[k + 1]? = some b →
      ∃ ga gb, m.segment a.seg = some ga ∧ m.segment b.seg = some gb ∧ b.seg ≠ a.seg ∧
        (match a.sign with
         | .plus => ga.nodeB
         | .minus => ga.nodeA) = (match b.sign with
         | .plus => gb.nodeA
         | .minus => gb.nodeB) ∧
        (b.sign = .minus → gb.nodeA ≠ gb.nodeB)) ∧
    (∀ r p, t.cut = some (r, p) → p = at' + t.entries.length ∧ ∃ x, ids[t.entries.length]? = some x ∧
      (r = .capacity ↔ t.entries.length = room) ∧
      (r = .absent ↔ t.entries.length < room ∧ m.present x = false) ∧
      (r = .notAdjacent ↔ t.entries.length < room ∧ m.present x = true ∧
        let last := (t.entries.getLast?).getD prev
        (x = last.seg ∨ ∀ gl gx, m.segment last.seg = some gl → m.segment x = some gx →
          let joining := match last.sign with
            | .plus => gl.nodeB
            | .minus => gl.nodeA
          gx.nodeA ≠ joining ∧ gx.nodeB ≠ joining)))

/-- ROUTE_CLEAR: the route ends at the current entry, or is emptied without a position, and is reported as a route
change; taken in JOINING and RUN only (R52). -/
def Obligations.RouteClear : Prop :=
  ∀ s : State, PortFree s →
    (¬ (s.ctl.state = .joining ∨ s.ctl.state = .run) → exec .routeClear s = .next (s.replied .refusedState [])) ∧
    (s.ctl.state = .joining ∨ s.ctl.state = .run → ∀ keep : Nat,
      (s.pos.quality = .none ∧ keep = 0) ∨ (s.pos.quality ≠ .none ∧ ∃ i, s.pos.index = some i ∧ keep = i + 1) →
      let cut := { s with route := { entries := s.route.entries.take keep, stop := none, armed := false } }
      exec .routeClear s = .next (cut.reportRoute.replied .done []) ∧
        cut.reportRoute.guide = cut.reportRoute.guidance ∧ ReportFrame cut cut.reportRoute)

/-- SET_LOAD and SET_PRIORITY: the load with its recomputation and no notice (R140), the class clamped to 3, with an
examination at once (R97, R103). -/
def Obligations.SetLoadAndPriority : Prop :=
  ∀ (s : State) (v : Nat), PortFree s → s.ctl.state = .joining ∨ s.ctl.state = .run →
    (1 < v → exec (.setLoad v) s = .next (s.replied .refusedValue [])) ∧
    (v ≤ 1 → ∃ u : State, exec (.setLoad v) s = .next (u.replied .done []) ∧ u.guide = u.guidance ∧ u.claim = s.claim ∧
      u.sched = s.sched ∧ u.link = s.link ∧ u.route = s.route ∧ u.pos = s.pos ∧
      ReportFrame { s with load := if v = 1 then .laden else .empty } u) ∧
    (∃ u : State, exec (.setPriority v) s = .next (u.replied (if 3 < v then .doneClamped else .done) []) ∧
      u = State.claimOnly (fun t => (t, [])) true { s with claim := { s.claim with prec := min 3 v } } ∧
      u.claim.prec = min 3 v ∧ ReportFrame { s with claim := { s.claim with prec := min 3 v } } u)

/-- BAY_CONTROL: overrides first, then the snoop switch; BAY_HOLD exactly for a bay that leaves OPEN while its segment is
HELD, by ROUTE or DETACHED, or under the body; and the report of changed states (R125, R126, R127, R128, R129). The order at
the Guidance Unit is free (log 7). -/
def Obligations.BayControl : Prop :=
  (∀ s : State, s.reportBays = s.guided (fun t => (claimEvent (fun v => (v, [])) true t).1)) ∧
  ∀ (s : State) (snoop crane o0 o1 o2 o3 : Nat), PortFree s → s.ctl.state = .joining ∨ s.ctl.state = .run →
    let closes (table : BayTable) (g : Nat) : Prop := g ≠ 1023 ∧ ∃ (k : Nat) (a b : Bay),
      s.bays.entries[k]? = some a ∧ table.entries[k]? = some b ∧ a.state = .opened ∧ b.state ≠ .opened ∧ b.segment = g
    let taken (g : Nat) : Prop := (∃ e ∈ s.claim.list, e.state = .held ∧ e.seg = g) ∨
      ∃ b p, s.body = some b ∧ p ∈ s.spans ∧ p.seg = g ∧ p.start < b.front ∧ b.rear < p.stop
    let ov := [o0, o1, o2, o3]
    let ok := snoop ≤ 1 ∧ (crane = 0 ∨ crane ∈ s.map.cranes) ∧ ∀ v ∈ ov, v ≤ 2
    let held (c : Crane) (i : Nat) (b : Bay) : Bay :=
      { b with overrideOpen := if c.id = crane ∧ ov[i]? = some 0 then false
                               else if c.id = crane ∧ ov[i]? = some 1 then true else b.overrideOpen }
    let overridden (b : Bay) : Bay := { b with state := if b.overrideOpen then .opened else .shut, source := .overridden }
    let switched (c : Crane) (b : Bay) : Bay :=
      if snoop = 1 then (if s.bays.snoop then b else { b with state := .unknown, source := .snoop })
      else if s.bays.snoop ∨ c.id = crane then overridden b else b
    let table : BayTable :=
      { s.bays with snoop := decide (snoop = 1),
                    cranes := s.bays.cranes.map (fun c => { c with bays := c.bays.mapIdx (fun i b => switched c (held c i b)) }) }
    (¬ ok → exec (.bayControl snoop crane o0 o1 o2 o3) s = .next (s.replied .refusedValue [])) ∧
    (ok → ∃ u : State, exec (.bayControl snoop crane o0 o1 o2 o3) s = .next (u.replied .done []) ∧
      ReportFrame { s with bays := table } u ∧
      (u.flag .bayHold = true ↔ s.flag .bayHold = true ∨ ∃ g, closes table g ∧ taken g) ∧
      ∃ v : State, v = { s with bays := table, port := v.port } ∧ { v.port with flags := s.port.flags } = s.port ∧
        (∀ e, v.flag e = true ↔ s.flag e = true ∨ e = .bayHold ∧ ∃ g, closes table g ∧ taken g) ∧
        u = if table.entries.map (·.state) = s.bays.entries.map (·.state) then v else v.reportBays)

/-- STILL_CONTROL: both switches, and the effective motion they give, whose change is reported and can so raise ARRIVED
(R37, R56; the report's order at the Guidance Unit is free, log 7, its trim comes last by the model's choice, log 34). -/
def Obligations.StillControl : Prop :=
  ∀ (s : State) (f d : Nat), PortFree s → s.ctl.state = .joining ∨ s.ctl.state = .run →
    (1 < f ∨ 1 < d → exec (.stillControl f d) s = .next (s.replied .refusedValue [])) ∧
    (f ≤ 1 → d ≤ 1 →
      let motion : Motion :=
        if f = 1 then .still else if d = 1 then (if s.stillLimit ≤ s.pos.stillCount then .still else .moving) else .moving
      ∃ u : State, exec (.stillControl f d) s = .next (u.replied .done []) ∧
        ReportFrame { s with pos := { s.pos with force := decide (f = 1), detect := decide (d = 1), motion := motion } } u ∧
        (motion ≠ s.pos.motion → ArrivalTest { s with
            pos := { s.pos with force := decide (f = 1), detect := decide (d = 1), motion := motion } } u ∧
          u = State.reportPosition { s with
            pos := { s.pos with force := decide (f = 1), detect := decide (d = 1), motion := motion } }) ∧
        (motion = s.pos.motion →
          u = { s with pos := { s.pos with force := decide (f = 1), detect := decide (d = 1) } }))

/-- CLEAR_PEER: the entry goes and saturation ends, each reported, or the id is refused (R84, R90, R91, R93). -/
def Obligations.ClearPeer : Prop :=
  ∀ (s : State) (id : Nat), PortFree s →
    (¬ (s.ctl.state = .joining ∨ s.ctl.state = .run) → exec (.clearPeer id) s = .next (s.replied .refusedState [])) ∧
    (s.ctl.state = .joining ∨ s.ctl.state = .run → (∀ p ∈ s.peers.entries, p.id ≠ id) →
      exec (.clearPeer id) s = .next (s.replied .refusedValue [])) ∧
    (s.ctl.state = .joining ∨ s.ctl.state = .run → (∃ p ∈ s.peers.entries, p.id = id) →
      let gone := { s with peers := { entries := s.peers.entries.filter (fun p => p.id != id), saturation := none } }
      let u := (gone.reportRemoval id).reportSaturationEnd s.peers.saturation.isSome
      exec (.clearPeer id) s = .next (u.replied .done []) ∧
        ReportFrame { gone with claim := { s.claim with
          satSuspension := if s.peers.saturation.isSome then false else s.claim.satSuspension } } u) ∧
    Cmd.clearPeer.run [] s = (s, some { status := .partialDone, data := [0#8, 0#8] })

/-! ### Reads -/

/-- READ_STATUS, READ_GUIDANCE, READ_POSITION, READ_ROUTE, READ_CLAIMS and READ_BAYS change nothing but the reply they
leave, with every field of R180's layout (R57, R118, R130, R147, R171). The codes R180 does not number are log 10, a
value too large for its field log 8, the rounding of times log 27, the 0 sent for an absent value log 35, and the order of the
double-hold pairs log 38. -/
def Obligations.PlainReads : Prop :=
  ∀ s : State, PortFree s →
    let bit (b : Bool) : Nat := if b then 1 else 0
    let quality : Nat := match s.pos.quality with
      | .none => 0
      | .doubtful => 1
      | .good => 2
    let sign : Sign → Nat
      | .plus => 0
      | .minus => 1
    let motion : Nat := if s.pos.motion = .still then 1 else 0
    let here : Nat := if s.pos.quality = .none then 127 else s.pos.index.getD 127
    let suspensions : Nat := bit s.claim.satSuspension + 2 * bit s.claim.clash.isSome
    exec .readStatus s = .next (s.replied .done (
      pack 1 (match s.ctl.state with
        | .config => 0
        | .joining => 1
        | .run => 2
        | .leaving => 3
        | .offLine => 4) ++ pack 1 s.ctl.id ++ pack 1 (if s.ctl.orientation = .against then 1 else 0) ++
      pack 1 (bit s.map.isSealed) ++ pack 1 quality ++ pack 1 motion ++ pack 1 suspensions ++
      pack 1 (match s.ctl.cause with
        | .power => 0
        | .line => 1
        | .command => 2) ++ pack 2 s.ctl.resetCount)) ∧
    exec .readGuidance s = .next (s.replied .done (
      pack 1 (if s.guide.direction = .back then 1 else 0) ++ pack 3 s.guide.ptl ++ pack 3 s.guide.rearward ++
      pack 1 (bit s.guide.permit) ++ pack 2 s.guide.ceiling ++
      pack 1 (match s.guide.cause with
        | .classCeiling => 0
        | .window => 1
        | .grantEnd => 2
        | .routeEnd => 3
        | .destination => 4
        | .bay => 5
        | .vmax => 6
        | .load => 7
        | .quality => 8
        | .hold => 9) ++ pack 2 s.guide.code ++ pack 1 (if s.load = .laden then 1 else 0))) ∧
    exec .readPosition s = .next (s.replied .done (
      pack 1 here ++ pack 3 (if s.pos.quality = .none then 0 else s.pos.offset) ++ pack 1 quality ++ pack 1 motion ++
      pack 2 s.segmentHere ++ pack 3 s.plusOffset ++ pack 1 (sign s.travelSign) ++ pack 2 s.odo.speed ++
      pack 3 s.pos.sinceFix ++ pack 2 s.pos.rejects ++ pack 1 (bit s.pos.lastError.isSome) ++
      packSigned 3 (s.pos.lastError.getD 0) ++ pack 1 (bit s.pos.detect + 2 * bit s.pos.force))) ∧
    exec .readRoute s = .next (s.replied .done (
      pack 1 s.route.entries.length ++ s.route.entries.flatMap (fun e => pack 2 e.seg ++ pack 1 (sign e.sign)) ++
      pack 1 here ++ pack 1 (bit s.route.stop.isSome) ++ pack 3 (s.route.stop.getD 0) ++ pack 1 (bit s.route.armed))) ∧
    exec .readClaims s = .next (s.replied .done (
      pack 1 s.claim.list.length ++
      s.claim.list.flatMap (fun e => pack 2 e.seg ++
        pack 1 ((if e.state = .held then 1 else 0) + (if e.tie = .detached then 2 else 0)) ++ pack 1 e.advertised ++
        pack 3 (match e.waitStart with
          | some t => min 2097151 ((s.clock - t) / 1000)
          | none => 0)) ++
      pack 1 s.claim.prec ++ pack 1 suspensions ++
      pack 3 (match s.claim.clash with
        | some due => (due - s.clock + 999) / 1000
        | none => 0) ++ pack 1 (bit s.claim.waitReported) ++
      (match s.claim.faceOff with
        | some f => pack 1 f.peer ++ pack 1 (bit f.yields)
        | none => pack 1 0 ++ pack 1 0) ++
      pack 1 s.claim.doubles.length ++ s.claim.doubles.flatMap (fun d => pack 1 d.1 ++ pack 2 d.2))) ∧
    exec .readBays s = .next (s.replied .done (
      pack 1 (bit s.bays.snoop) ++ pack 1 (s.bays.cranes.map (fun c => c.bays.length)).sum ++
      s.bays.cranes.flatMap (fun c => (c.bays.mapIdx (fun i b => pack 1 c.id ++ pack 1 i ++
        pack 1 (match b.state with
          | .opened => 0
          | .hoist => 1
          | .shut => 2
          | .unknown => 3) ++ pack 1 (if b.source = .overridden then 1 else 0) ++ pack 1 (bit b.overrideOpen) ++
        pack 2 b.segment ++ pack 3 (match c.heardAt with
          | some t => min ((s.clock - t) / 1000) 65535
          | none => 65535))).flatten)))

/-- READ_PEER, READ_COUNTERS, READ_COUNTERS_CLEAR and READ_EVENTS, with every field of R180's layout: the last returns
every flag and the face-off peer and clears the flags, so that the attention line rises (R92, R172, R173, R174). The line is
low exactly while the reset input is not held and some set flag has its bit set in tuning value 46, the event mask; a raising
sets its own flag alone. An option of READ COUNTERS above 1 is refused. The codes that R180 does not number are the model's choices, log 10, a value
too large for its field is log 8, the rounding of times log 27. -/
def Obligations.ReadsThatClear : Prop :=
  (∀ s : State,
    let bit : Event → Nat
      | .arrived => 0
      | .waitExpired => 1
      | .faceOff => 2
      | .doubleHold => 3
      | .occupyConflict => 4
      | .qualityDrop => 5
      | .overrun => 6
      | .peerLost => 7
      | .saturated => 8
      | .idClash => 9
      | .routeCut => 10
      | .bayHold => 11
      | .permitDrop => 12
    (s.attentionLow = true ↔ s.pins.resetHeld = false ∧
      ∃ e, s.flag e = true ∧ ((s.ctl.tuning.getD 46 0).toNat.testBit (bit e)) = true) ∧
    ∀ e, s.flag e = s.port.flags.getLsbD (bit e) ∧ ∀ f, (s.raise e).flag f = (s.flag f || decide (f = e))) ∧
  ∀ s : State, PortFree s →
    let head := pack 1 s.peers.entries.length ++ pack 1 (if s.peers.saturation.isSome then 1 else 0)
    (∀ i p, s.peers.entries[i]? = some p → exec (.readPeer i) s = .next (s.replied .done (head ++ (
      pack 2 p.id ++ pack 1 (match p.status with
        | .fresh => 0
        | .quiet => 1
        | .lost => 2) ++ pack 2 p.sequence ++ pack 3 (min ((s.clock - p.heardAt) / 1000) 65535) ++ pack 3 p.missed ++
      pack 1 ((if p.still then 1 else 0) + (if p.laden then 2 else 0) + (if p.joining then 4 else 0)) ++ pack 1 p.prec ++
      pack 2 p.segment ++ pack 3 p.offset ++ pack 1 (if p.sign = .minus then 1 else 0) ++ pack 3 p.speed ++
      pack 1 p.held.length ++ p.held.flatMap (pack 2) ++ pack 1 p.wanted.length ++ p.wanted.flatMap (pack 2))))) ∧
    (∀ i, s.peers.entries.length ≤ i → exec (.readPeer i) s = .next (s.replied .refusedValue head)) ∧
    (let counters :=
        [s.link.framesIn, s.link.badCheck, s.link.dropped, s.link.taken, s.link.replaced, s.link.stale, s.pos.accepted,
         s.pos.cored, s.pos.rejected, s.pos.unknownTags, s.bays.notices, s.bays.unlisted].flatMap (pack 3);
      exec .readCounters s = .next (s.replied .done counters) ∧
      exec .readCountersClear s =
        .next ({ s with
          link := { s.link with framesIn := 0, badCheck := 0, dropped := 0, taken := 0, replaced := 0, stale := 0 },
          pos := { s.pos with accepted := 0, cored := 0, rejected := 0, unknownTags := 0 },
          bays := { s.bays with notices := 0, unlisted := 0 } }.replied .done counters)) ∧
    (∀ v, 1 < v → State.handOver .readCounters [v] s = s.replied .refusedValue []) ∧
    (∃ t : State, exec .readEvents s = .next t ∧
      t = { s with port := { s.port with flags := 0 } }.replied .done
        (pack 2 s.port.flags.toNat ++ pack 1 (s.port.faceOffPeer.getD 0)) ∧
      (∀ e, t.flag e = false) ∧ t.port.faceOffPeer = s.port.faceOffPeer ∧ t.attentionLow = false)

/-! ### Odometry, position, reader -/

/-- WHEEL_PULSE and RACE_END: the counts, the speed, the still count and the motion, the discard of a still race or the
credit of any other, a new race with the limits in force, and the report of a changed record with its arrival test (R18,
R19, R20, R27, R36, R37, R38, R56; the saturation of the counts is the model's choice, log 15). What such a report takes
off the route's front: entry 0 at the release of its segment behind the current entry (R54), and every front entry that
lies beyond the release margin behind the body and has no claim (R55). That the report's trim comes after the Claim Unit's
event is the model's choice (log 34), and the order at the Guidance Unit is free (log 7). That a timer's row moves the clock
up to its run-out is the model's choice (log 3). -/
def Obligations.WheelPulseAndRaceEnd : Prop :=
  ∀ s : State, s.pins.resetHeld = false →
    exec .wheelPulse s = .next { s with odo := { s.odo with
      racePulses := min s.odo.racePulseLimit (s.odo.racePulses + 1), uncredited := min 255 (s.odo.uncredited + 1) } } ∧
    (let now := if s.odo.racePulseLimit ≤ s.odo.racePulses then s.clock
        else max s.clock ((s.odo.raceStart / 100 + s.odo.raceTickLimit) * 100)
      let ticks := min s.odo.raceTickLimit (now / 100 - s.odo.raceStart / 100)
      let slow := s.odo.raceTickLimit ≤ ticks ∧ s.odo.racePulses ≤ s.stillThreshold
      let count := if slow then min 15 (s.pos.stillCount + 1) else 0
      let motion : Motion :=
        if s.pos.force then .still
        else if s.pos.detect then (if s.stillLimit ≤ count then .still else .moving) else .moving
      let measured := { s with
        clock := now, odo := { s.odo with speed := min 2000 (s.odo.racePulses * s.pulseLength * 100 / max 1 ticks) },
        pos := { s.pos with stillCount := count, motion := motion } }
      let counted := if motion = .still ∧ s.odo.racePulses ≤ s.stillThreshold
        then { measured with odo := { measured.odo with uncredited := 0 } } else measured.credit
      let fresh := { counted with odo := { counted.odo with
        raceStart := now, racePulses := 0, raceTickLimit := s.tuning 1, racePulseLimit := s.tuning 2 } }
      ∃ t : State, exec .raceEnd s = .next t ∧ ReportFrame fresh t ∧ t.odo.uncredited = 0 ∧
        (fresh.pos.reported = s.pos.reported → t = fresh) ∧
        (fresh.pos.reported ≠ s.pos.reported → t.guide = t.guidance ∧ ArrivalTest fresh t ∧ t = fresh.reportPosition) ∧
        fresh.reportPosition =
          fresh.guided (fun u => ((claimEvent (fun v => (v, [])) true u.testArrival).1).trim)) ∧
    (∀ g e rest, s.route.entries = e :: rest →
      (∀ i, e.seg = g → s.pos.index = some (i + 1) → s.routeRelease g = { s with
        route := { s.route with entries := rest }, pos := { s.pos with index := some i },
        claim := { s.claim with list := s.claim.list.map (fun c =>
          { c with spanStart := c.spanStart - s.map.lengthOf e.seg,
                   tie := match c.tie with
                     | .route k => .route (k - 1)
                     | .detached => .detached }) } }) ∧
      (e.seg ≠ g ∨ s.pos.index = none ∨ s.pos.index = some 0 → s.routeRelease g = s)) ∧
    (s.body = none → s.trim = s) ∧
    (∀ b i, s.body = some b → s.pos.index = some i →
      let through (k : Nat) : Int := ((s.route.entries.take (k + 1)).map (fun e => (s.map.lengthOf e.seg : Int))).sum
      ∃ k ≤ i, s.trim.route.entries = s.route.entries.drop k ∧ s.trim.pos.index = some (i - k) ∧
        (∀ j e, j < k → s.route.entries[j]? = some e →
          through j + s.releaseMargin < b.rear ∧ ∀ c ∈ s.claim.list, c.seg ≠ e.seg) ∧
        (∀ e, s.route.entries[k]? = some e →
          k = i ∨ b.rear ≤ through k + s.releaseMargin ∨ ∃ c ∈ s.claim.list, c.seg = e.seg))

/-- DIRECTION_LEVEL_CHANGE and DIRECTION_CHANGE: a changed level is taken after it has stood for 1,000 us, and a level
that returns before makes no change; what was counted before is credited in the old sense, the residue is 0, the race
goes on (R22, R153). That a timer's row moves the clock up to its run-out, and that a change whose time has passed and
whose row has not come is taken at the next level change, are the model's choices (log 3); so is the place of the trim in the
change's report (log 34), whose order at the Guidance Unit is free (log 7). -/
def Obligations.DirectionRows : Prop :=
  ∀ s : State, s.pins.resetHeld = false →
    (let shown : Direction := if s.pins.wdirHigh then .reverse else .forward;
      (∀ due, s.odo.directionDue = some due → s.clock < due) → exec .directionLevelChange s = .next { s with
        pins := { s.pins with wdirHigh := !s.pins.wdirHigh },
        odo := { s.odo with directionDue := if shown = s.odo.direction then none else some (s.clock + 1000) } }) ∧
    (∀ due u, s.odo.directionDue = some due → due ≤ s.clock → exec .directionChange s = .next u →
      exec .directionLevelChange s = exec .directionLevelChange u) ∧
    (s.odo.directionDue = none → exec .directionChange s = .next s) ∧
    (∀ due, s.odo.directionDue = some due →
      let credited := State.credit { s with clock := max s.clock due }
      let turned := { credited with odo := { s.odo with
        uncredited := 0, residue := 0, directionDue := none,
        direction := if s.pins.wdirHigh then .forward else .reverse } }
      ∃ t : State, exec .directionChange s = .next t ∧ t.guide = t.guidance ∧ ReportFrame turned t ∧
        t = turned.reportPosition)

/-- A movement ends on a held entry within its length, at exactly the distance moved less what was lost beyond the
last or the first entry; a credit moves the centre so, a loss or a distance beyond the fix gap makes GOOD DOUBTFUL, and
without a place only the counts are cleared (R20, R24, R25, R35). -/
def Obligations.CreditLands : Prop :=
  (∀ (lens : List Nat) (i off cm : Nat), i < lens.length → off ≤ lens.getD i 0 →
    (let a := landing lens .ahead i off cm;
      a.index < lens.length ∧ a.offset ≤ lens.getD a.index 0 ∧
      (lens.take a.index).sum + a.offset + a.lost = (lens.take i).sum + off + cm ∧
      (0 < a.lost → a.index + 1 = lens.length ∧ a.offset = lens.getD a.index 0)) ∧
    (let b := landing lens .back i off cm;
      b.index < lens.length ∧ b.offset ≤ lens.getD b.index 0 ∧
      (lens.take b.index).sum + b.offset + cm = (lens.take i).sum + off + b.lost ∧
      (0 < b.lost → b.index = 0 ∧ b.offset = 0))) ∧
  (∀ s : State, s.pos.index = none → s.credit = { s with odo := { s.odo with uncredited := 0, residue := 0 } }) ∧
  (∀ (s : State) (i : Nat), s.pos.index = some i →
    let h := s.odo.residue + s.odo.uncredited * s.pulseLength
    let l := landing s.entryLengths s.sense i s.pos.offset (h / 100)
    let since := min (s.pos.sinceFix + (h / 100 - l.lost)) 65535
    let falls := s.pos.quality = .good ∧ (0 < l.lost ∨ s.fixGap < since)
    (0 < h / 100 → ∃ port : CommandPort,
      s.credit = { s with
        pos := { s.pos with index := some l.index, offset := l.offset, sinceFix := since,
                            quality := if falls then .doubtful else s.pos.quality },
        odo := { s.odo with uncredited := 0, residue := if 0 < l.lost then 0 else h % 100 },
        port := port } ∧
      { port with flags := s.port.flags } = s.port ∧
      ∀ e, s.credit.flag e = (s.flag e || decide (e = .overrun ∧ 0 < l.lost ∨ e = .qualityDrop ∧ falls))) ∧
    (h / 100 = 0 → s.credit = { s with odo := { s.odo with uncredited := 0, residue := h % 100 } }))

/-- TAG_READ after a lead byte: the credit with its report, then the unknown tag, the read out of window, the fix that
seeds a position, and the cored, the accepted, the confirmed and the rejected fix (R24, R27, R28, R29, R30, R31, R32, R33,
R34). First, the centre's route distance (R23) and where a tag is located: the route window, the entry nearest the current
one, of two equally near the one ahead, or the lowest while there is none; the tag's route distance by the entry's sign, the
reader offset by the orientation, and the route's two ends (R29). That the credit's report comes before the tag is located is
the model's choice (log 16), the place of the trim in a position report log 34, the five bytes in one row log 20; a report's
order at the Guidance Unit is free (log 7). -/
def Obligations.TagReadFix : Prop :=
  (∀ (s : State) (k : Nat) (e : RouteEntry),
    let start (j : Nat) : Int := ((s.route.entries.take j).map (fun x => (s.map.lengthOf x.seg : Int))).sum
    (s.pos.quality ≠ .none → s.pos.index = some k → s.route.entries[k]? = some e →
      s.centre = some (start k + s.pos.offset)) ∧
    (s.pos.quality = .none ∨ s.pos.index = none → s.centre = none) ∧
    ∀ (t : Tag) (off : Int),
      let carries (j : Nat) : Prop := (∃ x, s.route.entries[j]? = some x ∧ x.seg = t.segment) ∧
        ∀ cur, s.pos.index = some cur → j ≤ cur + 2
      let distance (cur j : Nat) : Nat := ((j : Int) - cur).natAbs
      let along : Int := start k + (if e.sign = .plus then (t.offset : Int) else s.map.lengthOf t.segment - t.offset)
      let fix : Int := if s.ctl.orientation = .along then along + off else along - off
      ((∀ j, ¬ carries j) → s.fixPosition t off = none) ∧
      (carries k → s.route.entries[k]? = some e → (s.pos.index = none → ∀ j, carries j → k ≤ j) →
        (∀ cur, s.pos.index = some cur → ∀ j, carries j →
          distance cur k < distance cur j ∨ distance cur k = distance cur j ∧ j ≤ k) →
        s.fixPosition t off = if 0 ≤ fix ∧ fix ≤ start s.route.entries.length then some fix else none)) ∧
  ∀ (s : State) (b1 b2 b3 b4 b5 : Byte) (tagId : Nat) (off : Int) (r : OpenRead),
    s.pins.resetHeld = false → s.ctl.state ≠ .config → s.pins.reader = some r → r.bytes = [] → s.clock ≤ r.gapEnd →
    readTag b1 b2 b3 b4 b5 = some (tagId, off) →
    let row := Instr.tagRead b1 b2 b3 b4 b5
    let s0 := State.credit { s with pins := { s.pins with reader := none } }
    let s1 := State.creditReported { s with pins := { s.pins with reader := none } }
    let drops := s1.pos.quality = .good ∧ 2 ≤ s1.pos.rejects
    let rejected (p : Position) : Position :=
      { p with rejected := min (p.rejected + 1) 65535, rejects := min 255 (p.rejects + 1),
               quality := if drops then .doubtful else p.quality }
    let flagged (v : State) : State := if drops then v.raise .qualityDrop else v
    let reported (v u : State) : Prop :=
      (v.pos.reported = s1.pos.reported → u = v) ∧ (v.pos.reported ≠ s1.pos.reported → u = v.reportPosition)
    let placed (fix : Int) (u : State) : Prop := ∃ (j o : Nat) (p : Span), s1.spans[j]? = some p ∧ p.start + (o : Nat) = fix ∧
      fix ≤ p.stop ∧ (∀ k q, k < j → s1.spans[k]? = some q → q.stop < fix) ∧
      (let fixed := { s1 with
         pos := { s1.pos with index := some j, offset := o, quality := .good, rejects := 0, sinceFix := 0,
                              lastError := none, accepted := min (s1.pos.accepted + 1) 65535 },
         odo := { s1.odo with residue := 0 } }
       ReportFrame fixed u ∧ reported fixed u)
    ReportFrame s0 s1 ∧ (s0.pos.reported = s.pos.reported → s1 = s0) ∧
    (s0.pos.reported ≠ s.pos.reported → s1.guide = s1.guidance ∧ s1 = s0.reportPosition) ∧
    (s.map.tag tagId = none → exec row s =
      .next { s1 with pos := { s1.pos with unknownTags := min (s1.pos.unknownTags + 1) 65535 } }) ∧
    (∀ t, s.map.tag tagId = some t → s1.fixPosition t off = none → ∃ u : State, exec row s = .next u ∧
      (drops → u.flag .qualityDrop = true) ∧ ReportFrame { s1 with pos := rejected s1.pos } u ∧
      reported (flagged { s1 with pos := rejected s1.pos }) u) ∧
    (∀ t fix, s.map.tag tagId = some t → s1.fixPosition t off = some fix → s1.centre = none →
      ∃ u : State, exec row s = .next u ∧ placed fix u) ∧
    (∀ t fix c, s.map.tag tagId = some t → s1.fixPosition t off = some fix → s1.centre = some c →
      let err := fix - c
      let confirmed := s1.pos.quality = .doubtful ∧ ∃ last, s1.pos.lastError = some last ∧
        (err - last).natAbs ≤ s.confirmTolerance
      (err.natAbs ≤ s.coring → ∃ u : State, exec row s = .next u ∧
        (let cored := { s1 with pos := { s1.pos with
           quality := .good, rejects := 0, sinceFix := 0, lastError := none,
           cored := min (s1.pos.cored + 1) 65535 } }
         ReportFrame cored u ∧ reported cored u)) ∧
      (s.coring < err.natAbs → (err.natAbs ≤ s.jumpLimit ∨ confirmed) →
        ∃ u : State, exec row s = .next u ∧ placed fix u) ∧
      (s.coring < err.natAbs → s.jumpLimit < err.natAbs → ¬ confirmed → ∃ u : State, exec row s = .next u ∧
        (drops → u.flag .qualityDrop = true) ∧
        ReportFrame { s1 with pos := { rejected s1.pos with lastError := some err } } u ∧
        reported (flagged { s1 with pos := { rejected s1.pos with lastError := some err } }) u))

/-- READER_LEAD_BYTE, READ_GAP_TIMEOUT and TAG_READ on the reader line: hunting, the bytes of an open read, its last byte,
a gap passed, a read disregarded, and a read's tag id, high byte first, and signed reader offset (R28, R153, R178).
TAG_READ is five bytes on the line, one after the other (log 20).
That a timer's row moves the clock up to its run-out is the model's choice (log 3). -/
def Obligations.ReaderLine : Prop :=
  ∀ s : State, s.pins.resetHeld = false →
    let closed : State := { s with pins := { s.pins with reader := none } }
    let opened (bytes : List Byte) : State :=
      { s with pins := { s.pins with reader := some { bytes := bytes, gapEnd := s.clock + 5000 } } }
    (∀ b, (s.pins.reader = none ∨ ∃ r, s.pins.reader = some r ∧ r.gapEnd < s.clock) →
      exec (.readerLeadByte b) s = .next (if b = 0xA5#8 then opened [] else closed)) ∧
    (∀ b r, s.pins.reader = some r → s.clock ≤ r.gapEnd → r.bytes.length < 4 →
      exec (.readerLeadByte b) s = .next (opened (r.bytes ++ [b]))) ∧
    (∀ r b1 b2 b3 b4 b5, s.pins.reader = some r → s.clock ≤ r.gapEnd → r.bytes = [b1, b2, b3, b4] →
      ((b5 ≠ b1 ^^^ b2 ^^^ b3 ^^^ b4 ∨ (b1 = 0#8 ∧ b2 = 0#8 ∧ b3 = 0#8) ∨ b4.toInt < -100 ∨ 100 < b4.toInt ∨
        s.ctl.state = .config) → exec (.readerLeadByte b5) s = .next closed) ∧
      (∀ tagId off, s.ctl.state ≠ .config → readTag b1 b2 b3 b4 b5 = some (tagId, off) →
        exec (.readerLeadByte b5) s = .next (closed.takeRead tagId off)) ∧
      (let tagId := 65536 * b1.toNat + 256 * b2.toNat + b3.toNat
       let off : Int := if b4.toNat < 128 then b4.toNat else (b4.toNat : Int) - 256
       (b5 = b1 ^^^ b2 ^^^ b3 ^^^ b4 → tagId ≠ 0 → -100 ≤ off → off ≤ 100 →
         readTag b1 b2 b3 b4 b5 = some (tagId, off) ∧
         (s.ctl.state ≠ .config → exec (.readerLeadByte b5) s = .next (closed.takeRead tagId off))) ∧
       (b5 ≠ b1 ^^^ b2 ^^^ b3 ^^^ b4 ∨ tagId = 0 ∨ off < -100 ∨ 100 < off → readTag b1 b2 b3 b4 b5 = none))) ∧
    (s.pins.reader = none → exec .readGapTimeout s = .next s) ∧
    (∀ r, s.pins.reader = some r → exec .readGapTimeout s =
      .next { s with clock := max s.clock (r.gapEnd + 1), pins := { s.pins with reader := none } }) ∧
    (∀ b1 b2 b3 b4 b5 t1 t2 t3 t4 t5, exec (.readerLeadByte b1) s = .next t1 → exec (.readerLeadByte b2) t1 = .next t2 →
      exec (.readerLeadByte b3) t2 = .next t3 → exec (.readerLeadByte b4) t3 = .next t4 →
      exec (.readerLeadByte b5) t4 = .next t5 → exec (.tagRead b1 b2 b3 b4 b5) s = .next t5)

/-! ### The lines -/

/-- A hand-over to the Line Driver: the permit level at once, the pending code, a lower code in force at once, and
PERMIT_DROP at a fall (R133, R149, R150, R152). PERIOD_START and WIDTH_REACHED: the pending code comes into force,
the line goes high for a code above 0 and falls at the width; at code 255 it stays high (R151; the period that
follows late time is the model's choice, log 21). An event that the Guidance Unit hears both of itself and through the claim
list leaves the record of the end, handed over once, or twice with the inputs before the Claim Unit's event first, as a free
value decides (R133, log 7); no such event writes the lines before its hand-over. That a timer's row moves the clock up to its run-out is the model's choice (log 3). -/
def Obligations.CeilingLine : Prop :=
  (∀ (s : State) (k : State → State), (k s).line = s.line →
    let t := k s
    let u := s.guided k
    let first := State.raiseIf (s.line.permit && !s.recompute.line.permit) .permitDrop t
    let early := State.recompute { first with guide := s.guidance, line := s.recompute.line }
    u.guide = t.guidance ∧
    (u = t.recompute ∨ u = { t.recompute with choices := t.choices + 1 } ∨ u = { early with choices := t.choices + 1 })) ∧
  (∀ (s : State) (own : State → State × List Claim) (exam : Bool), (own s).1.line = s.line →
    (claimEvent own exam s).1.line = s.line ∧ s.testArrival.line = s.line ∧ s.trim.line = s.line) ∧
  (∀ s : State, s.recompute.guide = s.guidance ∧
    ((s.guidance.permit, s.guidance.code) = (s.guide.permit, s.guide.code) → s.recompute.line = s.line) ∧
    ((s.guidance.permit, s.guidance.code) ≠ (s.guide.permit, s.guide.code) →
      let force := if s.guidance.permit then min s.guidance.code s.line.code else 0
      s.recompute.line.permit = s.guidance.permit ∧ s.recompute.line.pendingCode = s.guidance.code ∧
      s.recompute.line.code = force ∧
      (s.recompute.line.high = true ↔
        s.line.high = true ∧ (force = s.line.code ∨ s.phase < force * 10000 / 255)) ∧
      (s.line.permit = true → s.guidance.permit = false →
        (∀ e, s.recompute.flag e = (s.flag e || decide (e = .permitDrop))) ∧
        { s.recompute.port with flags := s.port.flags } = s.port) ∧
      (s.line.permit = false ∨ s.guidance.permit = true → s.recompute.port = s.port))) ∧
  ∀ s : State, s.pins.resetHeld = false →
    (∃ t : State, exec .periodStart s = .next t ∧ t.clock = max s.clock (s.line.periodStart + 10000) ∧
      t.line.code = s.line.pendingCode ∧ t.line.pendingCode = s.line.pendingCode ∧ t.line.permit = s.line.permit ∧
      t.line.high = decide (0 < s.line.pendingCode) ∧ t.phase < 10000 ∧
      (s.clock ≤ s.line.periodStart + 10000 → t.line.periodStart = s.line.periodStart + 10000) ∧
      { t with clock := s.clock, line := s.line } = s) ∧
    (s.line.high = true → s.line.code < 255 → exec .widthReached s =
      .next { s with clock := max s.clock (s.line.periodStart + s.line.code * 10000 / 255),
                     line := { s.line with high := false } }) ∧
    (s.line.high = false ∨ 255 ≤ s.line.code → exec .widthReached s = .next s)

/-! ### The yard link -/

/-- MODEM_FRAME_ARRIVAL: disregarded in CONFIG; else counted, checked, form-tested and offered to the queue, which
keeps the oldest four; a good POSITION or LEAVE frame of another id marks the open window (R63, R64, R72). -/
def Obligations.FrameArrival : Prop :=
  ∀ (s : State) (f : List Byte), s.pins.resetHeld = false →
    let counted := { s.link with framesIn := min (s.link.framesIn + 1) 65535 }
    let marked := { s.sched with window := s.sched.window.map (fun w => { w with coincident := true }) }
    (s.ctl.state = .config → exec (.modemFrameArrival f) s = .next s) ∧
    (s.ctl.state ≠ .config → framePasses f = false ∨ readNotice f = none → exec (.modemFrameArrival f) s =
      .next { s with link := { counted with badCheck := min (s.link.badCheck + 1) 65535 } }) ∧
    (∀ n, s.ctl.state ≠ .config → framePasses f = true → readNotice f = some n →
      exec (.modemFrameArrival f) s =
        .next { s with
          link := if s.link.queue.length < 4 then { counted with queue := s.link.queue ++ [f] }
            else { counted with dropped := min (s.link.dropped + 1) 65535 },
          sched := match n with
            | .position p => if p.id = s.ctl.id then s.sched else marked
            | .leave id _ => if id = s.ctl.id then s.sched else marked
            | .crane _ _ => s.sched })

/-- START_OF_SEND: the slot empties and the counter rises; a POSITION notice counts against the countdown, closes
the old window and opens its own, and raises the advertised count of each WANTED entry that it named; the third LEAVE
notice ends LEAVING with the guard timer stopped (R59, R61, R69, R72, R74, R101, R160). -/
def Obligations.StartOfSend : Prop :=
  ∀ s : State, s.pins.resetHeld = false →
    (s.link.slot = none → exec .startOfSend s = .next s) ∧
    (∀ p f, s.link.slot = some { notice := .position p, frame := f } →
      let coincident := match s.sched.window with
        | some w => w.coincident
        | none => false
      let count := if s.sched.window = none then s.sched.nearCount else if coincident then s.sched.nearCount + 1 else 0
      let taken := { s with
          link := { s.link with slot := none, taken := min (s.link.taken + 1) 65535 },
          sched := { s.sched with
            freshStart := if p.fresh then s.sched.freshStart - 1 else s.sched.freshStart,
            nearCount := if s.sched.window ≠ none ∧ 4 ≤ count then 0 else count,
            slotIndex := if s.sched.window ≠ none ∧ 4 ≤ count then (s.sched.slotIndex + 1) % 8 else s.sched.slotIndex,
            window := if s.sched.cadence.isSome then some { closes := s.clock + 10000, coincident := false } else none } }
      exec .startOfSend s = .next (taken.claimOnly (ownAdvertise p.wanted) true) ∧
        (ownAdvertise p.wanted taken).1.claim.list = s.claim.list.map (fun e =>
          if e.state = .wanted ∧ e.seg ∈ p.wanted then { e with advertised := min 7 (e.advertised + 1) } else e) ∧
        (ownAdvertise p.wanted taken).2 = [] ∧
        ReportFrame taken (taken.claimOnly (ownAdvertise p.wanted) true)) ∧
    (∀ id q f, s.link.slot = some { notice := .leave id q, frame := f } →
      let after := { s with
        link := { s.link with slot := none, taken := min (s.link.taken + 1) 65535 },
        sched := { s.sched with leaveCount := s.sched.leaveCount + 1 } }
      (s.ctl.state = .leaving → 3 ≤ s.sched.leaveCount + 1 →
        ∃ t : State, exec .startOfSend s = .next t ∧ t.guide = t.guidance ∧ t.sched.guard = none ∧
          ReportFrame { after with ctl := { s.ctl with state := .offLine },
                                   sched := { after.sched with guard := none } } t) ∧
      (s.ctl.state ≠ .leaving ∨ s.sched.leaveCount + 1 < 3 → exec .startOfSend s = .next after))

/-- FRAME_PARSE of a POSITION or LEAVE notice: the own id, the sequence test, the update, the removal, the entry, the
eviction, of the lowest index among equals, and the unenterable notice, each with the reports it makes to the Claim Unit, what
each does there and whether W is examined (R65, R80 to R85, R88 to R90, R93, R103, R104, R107, R108). That the end of
saturation at an entry by eviction is reported last is the model's reading (log 36). -/
def Obligations.FrameParse : Prop :=
  ∀ (s : State) (f : List Byte) (rest : List (List Byte)), s.pins.resetHeld = false → s.ctl.state ≠ .config →
    s.link.queue = f :: rest →
    let s0 := { s with link := { s.link with queue := rest } }
    let stale := { s0 with link := { s0.link with stale := min (s.link.stale + 1) 65535 } }
    let behind (last seq : Nat) : Nat := ((last : Int) - seq).emod 256 |>.toNat
    let clash (u : State) : State := u.claimOnly (fun t =>
      ({ t with claim := { t.claim with clash := some (t.clock + 1000 * t.lostTime) } }, [])) false
    let suspend (on exam : Bool) (u : State) : State :=
      u.claimOnly (fun t => ({ t with claim := { t.claim with satSuspension := on } }, [])) exam
    let removal (id : Nat) (u : State) : State := u.claimOnly (fun t =>
      ({ t with claim := { t.claim with doubles := t.claim.doubles.filter (fun d => decide (d.1 ≠ id)) } }, [])) true
    let accepted (p : Peer) (u : State) : State := u.claimOnly (ownAccepted p) true
    let ended (u : State) : State := if s.peers.saturation.isSome then suspend false true u else u
    let entry (n : PositionNotice) (missed : Nat) : Peer :=
      { id := n.id, status := .fresh, sequence := n.sequence, heardAt := s.clock, missed := missed, still := n.still,
        laden := n.laden, joining := n.joining, prec := n.prec, segment := n.segment, offset := n.offset, sign := n.sign,
        speed := n.speed, held := n.held, wanted := n.wanted }
    (∀ n, readNotice f = some (.position n) →
      (n.id = s.ctl.id → ∃ t : State, exec .frameParse s = .next t ∧ t.flag .idClash = true ∧
        t = clash (s0.raise .idClash) ∧
        ReportFrame { s0 with claim := { s.claim with clash := some (s.clock + 1000 * s.lostTime) } } t) ∧
      (∀ p, n.id ≠ s.ctl.id → s.peers.entries.find? (fun q => q.id == n.id) = some p →
        (n.fresh = false → behind p.sequence n.sequence < 128 → exec .frameParse s = .next stale) ∧
        (n.fresh = true ∨ 128 ≤ behind p.sequence n.sequence →
          let missed := if n.fresh then p.missed else min (p.missed + (behind n.sequence p.sequence - 1)) 65535
          let updated := { s0 with peers := { s.peers with
            entries := s.peers.entries.map (fun q => if q.id = n.id then entry n missed else q) } }
          ∃ t : State, exec .frameParse s = .next t ∧ t = accepted (entry n missed) updated ∧ ReportFrame updated t)) ∧
      (n.id ≠ s.ctl.id → (∀ q ∈ s.peers.entries, q.id ≠ n.id) →
        (s.peers.entries.length < 48 → ∃ t : State, exec .frameParse s = .next t ∧
          t = accepted (entry n 0) { s0 with peers := { s.peers with entries := s.peers.entries ++ [entry n 0] } } ∧
          ReportFrame { s0 with peers := { s.peers with entries := s.peers.entries ++ [entry n 0] } } t) ∧
        (48 ≤ s.peers.entries.length → (∀ q ∈ s.peers.entries, q.status ≠ .lost ∨ q.held ≠ []) →
          let waiting := { s0 with peers := { s.peers with saturation := some (s.clock + 1000 * s.lostTime) } }
          ∃ t : State, exec .frameParse s = .next t ∧ (s.peers.saturation = none → t.flag .saturated = true) ∧
            t = (if s.peers.saturation = none then suspend true false (waiting.raise .saturated) else waiting) ∧
            ReportFrame { s0 with
              peers := { s.peers with saturation := some (s.clock + 1000 * s.lostTime) },
              claim := { s.claim with
                satSuspension := if s.peers.saturation = none then true else s.claim.satSuspension } } t) ∧
        (48 ≤ s.peers.entries.length → (∃ q ∈ s.peers.entries, q.status = .lost ∧ q.held = []) →
          ∃ t out, exec .frameParse s = .next t ∧ out ∈ s.peers.entries ∧ out.status = .lost ∧ out.held = [] ∧
            (∀ q ∈ s.peers.entries, q.status = .lost → q.held = [] → s.peerTime q ≤ s.peerTime out) ∧
            (∃ pre post, s.peers.entries = pre ++ out :: post ∧
              ∀ q ∈ pre, q.status = .lost → q.held = [] → s.peerTime q < s.peerTime out) ∧
            t = ended (accepted (entry n 0) (removal out.id { s0 with
              peers := { entries := s.peers.entries.filter (fun q => q.id != out.id) ++ [entry n 0],
                         saturation := none } })) ∧
            ReportFrame { s0 with
              peers := { entries := s.peers.entries.filter (fun q => q.id != out.id) ++ [entry n 0],
                         saturation := none },
              claim := { s.claim with
                satSuspension := if s.peers.saturation.isSome then false else s.claim.satSuspension } } t))) ∧
    (∀ id q, readNotice f = some (.leave id q) →
      (id = s.ctl.id → ∃ t : State, exec .frameParse s = .next t ∧ t.flag .idClash = true ∧
        t = clash (s0.raise .idClash) ∧
        ReportFrame { s0 with claim := { s.claim with clash := some (s.clock + 1000 * s.lostTime) } } t) ∧
      (id ≠ s.ctl.id → (∀ p ∈ s.peers.entries, p.id ≠ id) → exec .frameParse s = .next s0) ∧
      (∀ p, id ≠ s.ctl.id → s.peers.entries.find? (fun p => p.id == id) = some p →
        (behind p.sequence q < 128 → exec .frameParse s = .next stale) ∧
        (128 ≤ behind p.sequence q → ∃ t : State, exec .frameParse s = .next t ∧
          t = ended (removal id { s0 with
            peers := { entries := s.peers.entries.filter (fun p => p.id != id), saturation := none } }) ∧
          ReportFrame { s0 with
            peers := { entries := s.peers.entries.filter (fun p => p.id != id), saturation := none },
            claim := { s.claim with
              satSuspension := if s.peers.saturation.isSome then false else s.claim.satSuspension } } t)))

/-- FRAME_PARSE of a CRANE notice: counted; a listed crane's bays take its states under snoop and its silence starts
again, with BAY_HOLD exactly for a bay that leaves OPEN while its segment is HELD or under the body, and the report of
changed states; an unlisted crane is counted and disregarded (R65, R122, R123, R126, R128, R129). -/
def Obligations.CraneNoticeParse : Prop :=
  ∀ (s : State) (f : List Byte) (rest : List (List Byte)) (id : Nat) (states : List BayState),
    s.pins.resetHeld = false → s.ctl.state ≠ .config → s.link.queue = f :: rest → readNotice f = some (.crane id states) →
    let s0 := { s with link := { s.link with queue := rest } }
    let closes (table : BayTable) (g : Nat) : Prop := g ≠ 1023 ∧ ∃ (k : Nat) (a b : Bay),
      s.bays.entries[k]? = some a ∧ table.entries[k]? = some b ∧ a.state = .opened ∧ b.state ≠ .opened ∧ b.segment = g
    let taken (g : Nat) : Prop := (∃ e ∈ s.claim.list, e.state = .held ∧ e.seg = g) ∨
      ∃ b p, s.body = some b ∧ p ∈ s.spans ∧ p.seg = g ∧ p.start < b.front ∧ b.rear < p.stop
    let notices := min (s.bays.notices + 1) 65535
    let table : BayTable := { s.bays with
        notices := notices,
        cranes := s.bays.cranes.map (fun c => if c.id = id then
          { c with
            heardAt := some s.clock, silent := false,
            bays := if s.bays.snoop then c.bays.mapIdx (fun i b => { b with state := states.getD i b.state, source := .snoop })
              else c.bays }
          else c) }
    ((∀ c ∈ s.bays.cranes, c.id ≠ id) → exec .frameParse s =
      .next { s0 with bays := { s.bays with notices := notices, unlisted := min (s.bays.unlisted + 1) 65535 } }) ∧
    ((∃ c ∈ s.bays.cranes, c.id = id) → ∃ t : State, exec .frameParse s = .next t ∧ ReportFrame { s0 with bays := table } t ∧
      (t.flag .bayHold = true ↔ s.flag .bayHold = true ∨ ∃ g, closes table g ∧ taken g) ∧
      (∃ v : State, v = { s0 with bays := table, port := v.port } ∧ { v.port with flags := s.port.flags } = s.port ∧
        (∀ e, v.flag e = true ↔ s.flag e = true ∨ e = .bayHold ∧ ∃ g, closes table g ∧ taken g) ∧
        t = if table.entries.map (·.state) = s.bays.entries.map (·.state) then v else v.reportBays) ∧
      (table.entries.map (·.state) = s.bays.entries.map (·.state) → t = { s0 with bays := table }) ∧
      (table.entries.map (·.state) ≠ s.bays.entries.map (·.state) → t.guide = t.guidance))

/-- CADENCE_EXPIRY, PROMPT_GUARD_EXPIRY and COINCIDENCE_WINDOW_CLOSE, with every field of a POSITION notice as it stands
at the build, and the interval of a slot (R66 to R68, R70 to R74). And the list change: at the end of every event of the
Claim Unit the lists are compared with the last reported ones; where they differ they become the last reported ones and, in
JOINING and RUN, a notice is built at once with the guard started, or the pending flag is set while the guard runs (R73,
R115). That a timer's row moves the clock up to its run-out is the model's choice (log 3). -/
def Obligations.SchedulerTimers : Prop :=
  ∀ s : State, s.pins.resetHeld = false →
    let built (n : Notice) (l : LinkPort) : LinkPort :=
      { l with slot := some { notice := n, frame := framed n.bytes },
               replaced := if l.slot.isSome then min (l.replaced + 1) 65535 else l.replaced }
    let place : Option RouteEntry :=
      if s.pos.quality = .none then none else s.pos.index.bind (fun i => s.route.entries[i]?)
    let along : Prop := (s.odo.direction = .forward ↔ s.ctl.orientation = .along)
    let notice : PositionNotice :=
      { id := s.ctl.id, sequence := s.sched.sequence, fresh := decide (0 < s.sched.freshStart),
        joining := decide (s.ctl.state = .joining), still := decide (s.pos.motion = .still),
        laden := decide (s.load = .laden), prec := s.claim.prec, speed := s.odo.speed,
        segment := match place with
          | some e => e.seg
          | none => 1023
        offset := match place with
          | some e => if e.sign = .plus then s.pos.offset else s.map.lengthOf e.seg - s.pos.offset
          | none => 0
        sign := match place with
          | some e => if (e.sign = .plus ↔ along) then .plus else .minus
          | none => .plus
        held := (s.claim.list.filter (fun e => decide (e.state = .held))).map (·.seg)
        wanted := (s.claim.list.filter (fun e => decide (e.state = .wanted))).map (·.seg) }
    let next := (s.sched.sequence + 1) % 256
    let guardAt (now : Nat) := some (now + 1000 * s.promptGuard)
    (∀ slot, (s.pos.motion = .still → s.slotInterval slot = max (s.tuning 12) (max (s.tuning 13) (s.tuning 14))) ∧
      (s.pos.motion = .moving → (s.tuning (15 + slot) = 0 → s.slotInterval slot = s.tuning 12) ∧
        (s.tuning (15 + slot) = 1 → s.slotInterval slot = s.tuning 13) ∧
        (s.tuning (15 + slot) = 2 → s.slotInterval slot = s.tuning 14))) ∧
    (∀ own exam, let t := (claimEvent own exam s).1
      ∃ u : State, t = u.reportLists ∧ u.claim.list = t.claim.list ∧ u.sched = (own s).1.sched ∧ u.link = (own s).1.link ∧
        u.claim.lastHeld = (own s).1.claim.lastHeld ∧ u.claim.lastWanted = (own s).1.claim.lastWanted) ∧
    (notice.held = s.claim.lastHeld → notice.wanted = s.claim.lastWanted → s.reportLists = s) ∧
    (notice.held ≠ s.claim.lastHeld ∨ notice.wanted ≠ s.claim.lastWanted →
      let marked := { s with claim := { s.claim with lastHeld := notice.held, lastWanted := notice.wanted } }
      (s.ctl.state = .joining ∨ s.ctl.state = .run →
        (s.sched.guard = none → s.reportLists = { marked with
          link := built (.position notice) s.link,
          sched := { s.sched with sequence := next, guard := guardAt s.clock } }) ∧
        (s.sched.guard ≠ none → s.reportLists = { marked with sched := { s.sched with pendingNotice := true } })) ∧
      (¬ (s.ctl.state = .joining ∨ s.ctl.state = .run) →
        s.reportLists = { marked with sched := { s.sched with pendingNotice := false } })) ∧
    (s.sched.cadence = none → exec .cadenceExpiry s = .next s) ∧
    (∀ due, s.sched.cadence = some due →
      let now := max s.clock due
      let slot := (s.sched.slotIndex + 1) % 8
      exec .cadenceExpiry s = .next { s with
        clock := now, link := built (.position notice) s.link,
        sched := { s.sched with sequence := next, slotIndex := slot,
                                cadence := some (now + 1000 * s.slotInterval slot) } }) ∧
    (s.sched.guard = none → exec .promptGuardExpiry s = .next s) ∧
    (∀ due, s.sched.guard = some due →
      let now := max s.clock due
      (s.ctl.state = .joining ∨ s.ctl.state = .run → s.sched.pendingNotice = true → exec .promptGuardExpiry s =
        .next { s with
          clock := now, link := built (.position notice) s.link,
          sched := { s.sched with sequence := next, pendingNotice := false, guard := guardAt now } }) ∧
      (s.ctl.state = .leaving → s.sched.leaveCount < 3 → exec .promptGuardExpiry s =
        .next { s with
          clock := now, link := built (.leave s.ctl.id s.sched.sequence) s.link,
          sched := { s.sched with sequence := next, guard := guardAt now } }) ∧
      ((s.ctl.state = .joining ∨ s.ctl.state = .run) ∧ s.sched.pendingNotice = false ∨
          s.ctl.state = .leaving ∧ 3 ≤ s.sched.leaveCount ∨ s.ctl.state = .config ∨ s.ctl.state = .offLine →
        exec .promptGuardExpiry s = .next { s with clock := now, sched := { s.sched with guard := none } })) ∧
    (s.sched.window = none → exec .coincidenceWindowClose s = .next s) ∧
    (∀ w, s.sched.window = some w →
      let run := s.sched.nearCount + 1
      exec .coincidenceWindowClose s = .next { s with
        clock := max s.clock w.closes,
        sched := { s.sched with
          window := none,
          nearCount := if w.coincident then (if 4 ≤ run then 0 else run) else 0,
          slotIndex := if w.coincident ∧ 4 ≤ run then (s.sched.slotIndex + 1) % 8 else s.sched.slotIndex } })

/-! ### Timers of the peers, the claims and the cranes -/

/-- QUIET_TIME_REACHED, PEER_LOST and SATURATION_TIMER_EXPIRY, with the reports they make, at which W is examined (R86,
R90, R93, R103, R104; that a FRESH peer whose quiet time lies below the lost time passes through QUIET on its way to LOST is the model's reading, log 22). That a timer's row moves the clock
up to its run-out is the model's choice (log 3). -/
def Obligations.PeerTimers : Prop :=
  ∀ (s : State) (id : Nat), s.pins.resetHeld = false →
    let aged (p : Peer) (st : PeerStatus) (now : Nat) : State :=
      { s with clock := now, peers := { s.peers with
        entries := s.peers.entries.map (fun q => if q.id = p.id then { p with status := st } else q) } }
    ((∀ p ∈ s.peers.entries, p.id ≠ id) →
      exec (.quietTimeReached id) s = .next s ∧ exec (.peerLost id) s = .next s) ∧
    (∀ p, s.peers.entries.find? (fun q => q.id == id) = some p →
      (p.status = .fresh → s.quietTime < s.lostTime → ∃ t : State, exec (.quietTimeReached id) s = .next t ∧
        t = (aged p .quiet (max s.clock (p.heardAt + 1000 * s.quietTime))).claimOnly (fun v => (v, [])) true ∧
        ReportFrame (aged p .quiet (max s.clock (p.heardAt + 1000 * s.quietTime))) t) ∧
      (p.status ≠ .fresh ∨ s.lostTime ≤ s.quietTime → exec (.quietTimeReached id) s = .next s) ∧
      (p.status = .lost → exec (.peerLost id) s = .next s) ∧
      (p.status ≠ .lost → ∃ t : State, exec (.peerLost id) s = .next t ∧ t.flag .peerLost = true ∧
        ReportFrame (aged p .lost (max s.clock (p.heardAt + 1000 * s.lostTime))) t) ∧
      (p.status = .quiet ∨ p.status = .fresh ∧ s.lostTime ≤ s.quietTime → exec (.peerLost id) s =
        .next (((aged p .lost (max s.clock (p.heardAt + 1000 * s.lostTime))).raise .peerLost).claimOnly
          (fun v => (v, [])) true)) ∧
      (p.status = .fresh → s.quietTime < s.lostTime → ∀ u, exec (.quietTimeReached id) s = .next u →
        exec (.peerLost id) s = exec (.peerLost id) u)) ∧
    (s.peers.saturation = none → exec .saturationTimerExpiry s = .next s) ∧
    (∀ due, s.peers.saturation = some due → ∃ t : State, exec .saturationTimerExpiry s = .next t ∧
      t = State.claimOnly (fun v => ({ v with claim := { v.claim with satSuspension := false } }, [])) true
        { s with clock := max s.clock due, peers := { s.peers with saturation := none } } ∧
      ReportFrame { s with clock := max s.clock due, peers := { s.peers with saturation := none },
                           claim := { s.claim with satSuspension := false } } t)

/-- CLASH_TIMER_EXPIRY, at which W is examined, and WAIT_EXPIRED (R103, R104, R113); and the wait timer at the end of an
event: only the front WANTED entry has a wait start, one that has become it gets the time of the event, and its mark is
cleared then (R113; that the mark keeps its value while no entry is WANTED is the model's reading, log 29). That a timer's row
moves the clock up to its run-out is the model's choice (log 3). -/
def Obligations.ClaimTimers : Prop :=
  ∀ s : State, s.pins.resetHeld = false →
    (s.claim.clash = none → exec .clashTimerExpiry s = .next s) ∧
    (∀ pre w post, s.claim.list = pre ++ w :: post → (∀ e ∈ pre, e.state = .held) → w.state = .wanted →
      s.settleWait = { s with claim := { s.claim with
        list := pre.map (fun e => { e with waitStart := none }) ++
          { w with waitStart := some (w.waitStart.getD s.clock) } :: post.map (fun e => { e with waitStart := none }),
        waitReported := if w.waitStart = none then false else s.claim.waitReported } }) ∧
    ((∀ e ∈ s.claim.list, e.state = .held) → s.settleWait = { s with claim := { s.claim with
      list := s.claim.list.map (fun e => { e with waitStart := none }) } }) ∧
    (∀ due, s.claim.clash = some due → ∃ t : State, exec .clashTimerExpiry s = .next t ∧
      t = State.claimOnly (fun v => (v, [])) true
        { s with clock := max s.clock due, claim := { s.claim with clash := none } } ∧
      ReportFrame { s with clock := max s.clock due, claim := { s.claim with clash := none } } t) ∧
    (∀ w start, s.ctl.state = .joining ∨ s.ctl.state = .run → s.claim.waitReported = false →
      s.claim.list.find? (fun e => e.state == .wanted) = some w → w.waitStart = some start →
      ∃ t : State, exec .waitExpired s = .next t ∧ (∀ e, t.flag e = (s.flag e || decide (e = .waitExpired))) ∧
        t = { s with clock := max s.clock (start + 1000000 * s.waitLimit),
                     claim := { s.claim with waitReported := true }, port := t.port } ∧
        { t.port with flags := s.port.flags } = s.port) ∧
    (¬ (s.ctl.state = .joining ∨ s.ctl.state = .run) ∨ s.claim.waitReported = true ∨
        s.claim.list.find? (fun e => e.state == .wanted) = none → exec .waitExpired s = .next s)

/-- CRANE_SILENCE_EXPIRY: under snoop every bay of the crane becomes UNKNOWN, once for each run of silence, with BAY_HOLD
exactly for a bay that leaves OPEN while its segment is HELD or under the body, and the report of changed states; with snoop
OFF no state changes (R124, R128, R129). That a timer's row moves the clock up to its run-out is the model's choice
(log 3). -/
def Obligations.CraneSilence : Prop :=
  ∀ (s : State) (id : Nat), s.pins.resetHeld = false →
    let closes (table : BayTable) (g : Nat) : Prop := g ≠ 1023 ∧ ∃ (k : Nat) (a b : Bay),
      s.bays.entries[k]? = some a ∧ table.entries[k]? = some b ∧ a.state = .opened ∧ b.state ≠ .opened ∧ b.segment = g
    let taken (g : Nat) : Prop := (∃ e ∈ s.claim.list, e.state = .held ∧ e.seg = g) ∨
      ∃ b p, s.body = some b ∧ p ∈ s.spans ∧ p.seg = g ∧ p.start < b.front ∧ b.rear < p.stop
    (s.ctl.state = .config ∨ (∀ c ∈ s.bays.cranes, c.id ≠ id) → exec (.craneSilenceExpiry id) s = .next s) ∧
    (∀ c, s.ctl.state ≠ .config → s.bays.cranes.find? (fun c => c.id == id) = some c →
      (c.heardAt = none ∨ c.silent = true → exec (.craneSilenceExpiry id) s = .next s) ∧
      (∀ heard, c.heardAt = some heard → c.silent = false →
        let table : BayTable := { s.bays with cranes := s.bays.cranes.map (fun d => if d.id = id then
          { d with silent := true,
                   bays := if s.bays.snoop then d.bays.map (fun b =>
                     if b.state = .unknown then b else { b with state := .unknown, source := .snoop }) else d.bays }
          else d) }
        ∃ t : State, exec (.craneSilenceExpiry id) s = .next t ∧
          ReportFrame { s with clock := max s.clock (heard + 1000 * s.craneSilence), bays := table } t ∧
          (t.flag .bayHold = true ↔ s.flag .bayHold = true ∨ ∃ g, closes table g ∧ taken g) ∧
          (∃ v : State, v = { s with clock := max s.clock (heard + 1000 * s.craneSilence), bays := table, port := v.port } ∧
            { v.port with flags := s.port.flags } = s.port ∧
            (∀ e, v.flag e = true ↔ s.flag e = true ∨ e = .bayHold ∧ ∃ g, closes table g ∧ taken g) ∧
            t = if table.entries.map (·.state) = s.bays.entries.map (·.state) then v else v.reportBays) ∧
          (s.bays.snoop = false → t.port.flags = s.port.flags)))

/-! ### Encodings, limits and claims -/

/-- A notice whose fields fit their widths, framed, passes the check and the form test and reads back as itself (R62,
R176, R177). -/
def Obligations.NoticeRoundTrip : Prop :=
  (∀ p : PositionNotice, p.id < 256 → p.sequence < 256 → p.prec < 4 → p.segment < 1024 → p.offset < 65536 →
    p.speed < 65536 → p.held.length ≤ 8 → p.wanted.length ≤ 4 → (∀ g ∈ p.held ++ p.wanted, g < 1024) →
    goodNotice (framed (Notice.position p).bytes) = some (.position p) ∧
    (framed (Notice.position p).bytes).length = 13 + 2 * (p.held.length + p.wanted.length)) ∧
  (∀ id q, id < 256 → q < 256 → goodNotice (framed (Notice.leave id q).bytes) = some (.leave id q)) ∧
  (∀ id (a b c d : BayState), id < 256 → a ≠ .unknown → b ≠ .unknown → c ≠ .unknown → d ≠ .unknown →
    goodNotice (framed (Notice.crane id [a, b, c, d]).bytes) = some (.crane id [a, b, c, d]))

/-- Every step keeps the laws of the own claim list that need no geometry: no segment twice, at most four WANTED entries,
no entry out of JOINING and RUN or without a position, and the double-hold record's pairs named once, each with its own
segment HELD (R95, R108, R116, R117). -/
def Obligations.ClaimListInvariant : Prop :=
  ∀ s t : State, ClaimListLaw s → step s = .next t → ClaimListLaw t

/-- The integer square root is the exact root rounded down (R1, R137); the route entries by their route distances and the
body by its two ends (R23, R96); and the laws of R134 to R146 on the record computed from any inputs: each held run begins at the entry under its end and runs to the first entry not held; each limit is the
least of its terms, floored at 0 and clamped, and 0 without its run; a bay under the body that is not OPEN holds it; the
permit is true exactly on its grounds; the ceiling is the least of its terms, AHEAD scaled by the load setting and held to
the creep while DOUBTFUL, and the cause names what gave it (R145); it never exceeds the class ceiling of a segment under
the body, Vmax, nor the ceiling of a window the body overlaps; the code is the ceiling times 255 by Vmax (R146). -/
def Obligations.LimitLaws : Prop :=
  (∀ n : Nat, isqrt n * isqrt n ≤ n ∧ n < (isqrt n + 1) * (isqrt n + 1)) ∧
  (∀ (s : State) (k : Nat),
    let start (j : Nat) : Int := ((s.route.entries.take j).map (fun x => (s.map.lengthOf x.seg : Int))).sum
    s.spans[k]? = (s.route.entries[k]?).map (fun e =>
      { index := k, seg := e.seg, sign := e.sign, start := start k, stop := start k + s.map.lengthOf e.seg }) ∧
    s.routeLength = start s.route.entries.length ∧
    (s.pos.quality ≠ .none → s.pos.index = some k → k < s.route.entries.length → s.body = some
      { front := start k + s.pos.offset + s.halfLength, rear := start k + s.pos.offset - s.halfLength }) ∧
    (s.pos.quality = .none ∨ s.pos.index = none → s.body = none)) ∧
  ∀ (s : State) (b : Body), s.body = some b →
    let least (l : List Int) (limit : Nat) : Prop := ∃ x ∈ l, (∀ y ∈ l, x ≤ y) ∧ limit = min 65535 x.toNat
    let holding (st : Option BayState) : Prop := st = some .hoist ∨ st = some .unknown
    let entering (x : Nat × Int × Int) : Prop := s.bayOf x.1 = some .shut ∧ b.rear < x.2.1 ∧ b.front < x.2.2
    let backing (x : Nat × Int × Int) : Prop := s.bayOf x.1 = some .shut ∧ x.2.2 < b.front ∧ x.2.1 < b.rear
    let closed (p : Span) : Bool := match s.bayOf p.seg with
      | some .opened => false
      | some _ => true
      | none => false
    let held (p : Span) : Prop :=
      ∃ e ∈ s.claim.list, e.state = .held ∧ e.tie ≠ .detached ∧ e.seg = p.seg ∧ e.spanStart = p.start
    let destination : List Int := match s.route.stop, s.spans.getLast? with
      | some d, some p => [p.start + d - (b.front - s.halfLength)]
      | _, _ => []
    let routeEnd : List Int := if s.route.stop = none then [s.routeLength - b.front - s.standoff] else []
    (∀ p ∈ s.forwardRun b, held p ∧ p ∈ s.spans ∧ b.front ≤ p.stop) ∧
    (∀ p ∈ s.backwardRun b, held p ∧ p ∈ s.spans ∧ p.start ≤ b.rear) ∧
    (∀ i p, s.spans[i]? = some p → p.start < b.front → b.front ≤ p.stop →
      ∃ n, s.forwardRun b = (s.spans.drop i).take n ∧ ∀ q, s.spans[i + n]? = some q → ¬ held q) ∧
    ((∀ p ∈ s.spans, ¬ (p.start < b.front ∧ b.front ≤ p.stop)) → s.forwardRun b = []) ∧
    (∀ i p, s.spans[i]? = some p → p.start ≤ b.rear → b.rear < p.stop →
      ∃ n, s.backwardRun b = (s.spans.take (i + 1)).reverse.take n ∧
        ∀ q, (s.spans.take (i + 1)).reverse[n]? = some q → ¬ held q) ∧
    ((∀ p ∈ s.spans, ¬ (p.start ≤ b.rear ∧ b.rear < p.stop)) → s.backwardRun b = []) ∧
    (s.forwardRun b = [] → s.guidance.ptl = 0) ∧ (s.backwardRun b = [] → s.guidance.rearward = 0) ∧
    (∀ x ∈ s.stretchesUnder b, holding (s.bayOf x.1) → s.guidance.ptl = 0 ∧ s.guidance.rearward = 0) ∧
    (∀ x ∈ s.stretchesUnder b, entering x → s.guidance.ptl = 0) ∧
    (∀ x ∈ s.stretchesUnder b, backing x → s.guidance.rearward = 0) ∧
    (∀ p, (s.forwardRun b).getLast? = some p → (∀ x ∈ s.stretchesUnder b, ¬ holding (s.bayOf x.1) ∧ ¬ entering x) →
      least ([p.stop - b.front - s.standoff] ++ routeEnd ++ destination ++
        ((s.forwardRun b).filter (fun q => decide (b.front ≤ q.start) && closed q)).map
          (fun q => q.start - b.front - s.standoff)) s.guidance.ptl) ∧
    (∀ p, (s.backwardRun b).getLast? = some p → (∀ x ∈ s.stretchesUnder b, ¬ holding (s.bayOf x.1) ∧ ¬ backing x) →
      least ([b.rear - p.start - s.standoff] ++
        ((s.backwardRun b).filter (fun q => decide (q.stop ≤ b.rear) && closed q)).map
          (fun q => b.rear - q.stop - s.standoff)) s.guidance.rearward) ∧
    s.guidance.direction = s.sense ∧
    (s.guidance.permit = true ↔ s.ctl.state = .run ∧
      0 < (if s.sense = .ahead then s.guidance.ptl else s.guidance.rearward)) ∧
    (s.guidance.permit = false → s.guidance.ceiling = 0 ∧ s.guidance.code = 0 ∧ s.guidance.cause = .hold) ∧
    (s.creep ≤ s.vmax → s.guidance.ceiling ≤ s.vmax) ∧
    (s.guidance.permit = true → s.sense = .back ∨ s.pos.quality = .doubtful → s.guidance.ceiling ≤ s.creep) ∧
    (∀ x ∈ s.stretchesUnder b, s.guidance.ceiling ≤ s.ceilingOf x.1) ∧
    (∀ p ∈ s.routeUnder b, ∀ w ∈ s.map.windowsOn p.seg,
      (s.placeWindow p w).1 < b.front → b.rear < (s.placeWindow p w).2 → s.guidance.ceiling ≤ w.ceiling) ∧
    (∀ e ∈ s.detachedUnder b, ∀ w ∈ s.map.windowsOn e.seg, s.guidance.ceiling ≤ w.ceiling) ∧
    s.guidance.code = s.guidance.ceiling * 255 / s.vmax ∧
    (∀ p w, s.placeWindow p w = if p.sign = .plus then (p.start + w.start, p.start + w.stop)
      else (p.start + s.map.lengthOf p.seg - w.stop, p.start + s.map.lengthOf p.seg - w.start)) ∧
    (let first (rank : Cause → Nat) (term : Cause → Int → Prop) (c : Cause) (x : Int) : Prop :=
        term c x ∧ (∀ d y, term d y → x ≤ y) ∧ ∀ d, term d x → rank c ≤ rank d
      let limitRank : Cause → Nat
        | .bay => 0
        | .destination => 1
        | .grantEnd => 2
        | _ => 3
      let ceilingRank : Cause → Nat
        | .window => 0
        | .classCeiling => 1
        | .vmax => 3
        | .quality => 3
        | _ => 2
      let slowing (c : Nat) (d : Int) : Int := isqrt (c * c + 2 * s.deceleration * d.toNat)
      let forwardTerm (c : Cause) (x : Int) : Prop :=
        (c = .bay ∧ ∃ q ∈ s.forwardRun b, b.front ≤ q.start ∧ closed q = true ∧ x = q.start - b.front - s.standoff) ∨
        (c = .destination ∧ x ∈ destination) ∨
        (c = .grantEnd ∧ ∃ q, (s.forwardRun b).getLast? = some q ∧ x = q.stop - b.front - s.standoff) ∨
        (c = .routeEnd ∧ x ∈ routeEnd)
      let backwardTerm (c : Cause) (x : Int) : Prop :=
        (c = .bay ∧ ∃ q ∈ s.backwardRun b, q.stop ≤ b.rear ∧ closed q = true ∧ x = b.rear - q.stop - s.standoff) ∨
        (c = .grantEnd ∧ ∃ q, (s.backwardRun b).getLast? = some q ∧ x = b.rear - q.start - s.standoff)
      let windowUnder (x : Int) : Prop :=
        (∃ p ∈ s.routeUnder b, ∃ w ∈ s.map.windowsOn p.seg,
          (s.placeWindow p w).1 < b.front ∧ b.rear < (s.placeWindow p w).2 ∧ x = w.ceiling) ∨
        ∃ e ∈ s.detachedUnder b, ∃ w ∈ s.map.windowsOn e.seg, x = w.ceiling
      let classUnder (x : Int) : Prop := ∃ y ∈ s.stretchesUnder b, x = s.ceilingOf y.1
      let windowAhead (x : Int) : Prop :=
        ∃ p, (p ∈ s.routeUnder b ∨ (p ∈ s.forwardRun b ∧ b.front ≤ p.start)) ∧ ∃ w ∈ s.map.windowsOn p.seg,
          let d := (s.placeWindow p w).1 - b.front
          0 ≤ d ∧ d ≤ s.guidance.ptl ∧ x = slowing w.ceiling d
      let classAhead (x : Int) : Prop := ∃ p ∈ s.forwardRun b, b.front ≤ p.start ∧
        p.start - b.front ≤ s.guidance.ptl ∧ x = slowing (s.ceilingOf p.seg) (p.start - b.front)
      let aheadTerm (ending c : Cause) (x : Int) : Prop :=
        (c = .window ∧ (windowUnder x ∨ windowAhead x)) ∨ (c = .classCeiling ∧ (classUnder x ∨ classAhead x)) ∨
        (c = ending ∧ x = slowing 0 s.guidance.ptl) ∨ (c = .vmax ∧ x = s.vmax)
      let backTerm (ending c : Cause) (x : Int) : Prop :=
        (c = .window ∧ windowUnder x) ∨ (c = .classCeiling ∧ classUnder x) ∨
        (c = ending ∧ x = slowing 0 s.guidance.rearward) ∨ (c = .quality ∧ x = s.creep)
      s.guidance.permit = true →
        (s.sense = .ahead → ∃ ending limit c base, first limitRank forwardTerm ending limit ∧
          first ceilingRank (aheadTerm ending) c base ∧
          let scaled := min base (max 0 (base * (if s.load = .empty then s.tuning 41 else s.tuning 42) / 128 + s.tuningInt 43))
          if s.pos.quality = .doubtful ∧ (s.creep : Int) < scaled
            then s.guidance.cause = .quality ∧ s.guidance.ceiling = s.creep
          else if scaled < base then s.guidance.cause = .load ∧ s.guidance.ceiling = scaled
          else s.guidance.cause = c ∧ s.guidance.ceiling = base) ∧
        (s.sense = .back → ∃ ending limit, first limitRank backwardTerm ending limit ∧
          first ceilingRank (backTerm ending) s.guidance.cause s.guidance.ceiling))

/-- The law of R102: a segment that an examination makes HELD was wanted with its count matured, no peer of any status
held a segment of its conflict set, and a bay was OPEN; the station was in RUN with a position and no suspension. And the
first WANTED entry is promoted where all six conditions hold; the cascade, the filling after it and the face-off test of an
examination, its record and its event (R99, R103, R114); which entries filling adds and where it stops (R100); and what
occupancy makes of one entry under the body, with OCCUPY_CONFLICT and the making of room (R105, R106; a segment listed as
WANTED for another passage loses that entry and the WANTED ones after it, so that filling takes that passage up again, log 12;
that the farthest DETACHED entry is the last of the list is the model's choice, log 39). -/
def Obligations.PromotionLaw : Prop :=
  (∀ (s : State) (g : Nat), g ∈ heldIds s.examine.claim.list → g ∉ heldIds s.claim.list →
    s.ctl.state = .run ∧ s.pos.quality ≠ .none ∧ s.claim.satSuspension = false ∧ s.claim.clash = none ∧
    (∃ e ∈ s.claim.list, e.seg = g ∧ e.state = .wanted ∧ s.maturing ≤ e.advertised) ∧
    (∀ p ∈ s.peers.entries, ∀ h ∈ p.held, h ∉ s.map.conflictSet g) ∧
    (∀ p ∈ s.peers.entries, p.status ≠ .lost → (∃ h ∈ p.wanted, h ∈ s.map.conflictSet g) →
      ¬ (p.prec < s.claim.prec ∨ (p.prec = s.claim.prec ∧ p.id < s.ctl.id))) ∧
    (∀ p ∈ s.peers.entries, p.status = .quiet →
      p.segment ∉ s.map.conflictSet g ∧ s.map.adjacency g p.segment = .none) ∧
    (∀ st, s.bayOf g = some st → st = .opened)) ∧
  (∀ (s : State) (w : Claim), s.claim.list.find? (fun e => e.state == .wanted) = some w → heldCount s.claim.list < 8 →
    s.ctl.state = .run → s.pos.quality ≠ .none → s.claim.satSuspension = false → s.claim.clash = none →
    s.maturing ≤ w.advertised →
    (∀ p ∈ s.peers.entries, (∀ h ∈ p.held, h ∉ s.map.conflictSet w.seg) ∧
      (p.status ≠ .lost → (∃ h ∈ p.wanted, h ∈ s.map.conflictSet w.seg) →
        ¬ (p.prec < s.claim.prec ∨ (p.prec = s.claim.prec ∧ p.id < s.ctl.id))) ∧
      (p.status = .quiet → p.segment ∉ s.map.conflictSet w.seg ∧ s.map.adjacency w.seg p.segment = .none)) →
    (∀ st, s.bayOf w.seg = some st → st = .opened) → w.seg ∈ heldIds s.examine.claim.list) ∧
  (∀ s : State,
    let found (p : Peer) : Prop := p ∈ s.peers.entries ∧ p.status ≠ .lost ∧
      (∃ w, s.claim.list.find? (fun e => e.state == .wanted) = some w ∧ ∃ h ∈ p.held, h ∈ s.map.conflictSet w.seg) ∧
      ∃ v, p.wanted.head? = some v ∧ ∃ e ∈ s.claim.list, e.state = .held ∧ v ∈ s.map.conflictSet e.seg
    (heldIds s.examine.claim.list = heldIds s.claim.list → s.examine = s.testFaceOff) ∧
    (heldIds s.examine.claim.list ≠ heldIds s.claim.list → ∃ u : State, s.examine = u.testFaceOff.fill ∧
      heldIds u.claim.list = heldIds s.examine.claim.list ∧ u.examine = u.testFaceOff) ∧
    ((∀ p, ¬ found p) → s.testFaceOff = { s with claim := { s.claim with faceOff := none } }) ∧
    (∀ p, found p → (∀ q, found q → q = p ∨ p.prec < q.prec ∨ (p.prec = q.prec ∧ p.id < q.id)) →
      let record : FaceOff :=
        { peer := p.id, yields := decide (p.prec < s.claim.prec ∨ (p.prec = s.claim.prec ∧ p.id < s.ctl.id)) }
      let t := s.testFaceOff
      t = { s with claim := { s.claim with faceOff := some record }, port := t.port } ∧
      ((∃ f, s.claim.faceOff = some f ∧ f.peer = p.id) → t.port = s.port) ∧
      ((∀ f, s.claim.faceOff = some f → f.peer ≠ p.id) → t.port.faceOffPeer = some p.id ∧
        (∀ e, t.flag e = (s.flag e || decide (e = .faceOff))) ∧
        { t.port with flags := s.port.flags, faceOffPeer := s.port.faceOffPeer } = s.port))) ∧
  (∀ (s : State) (b : Body) (i : Nat), s.body = some b →
    (∃ pre e post k, s.claim.list = pre ++ e :: post ∧ e.tie = .route k ∧ (∀ x ∈ post, x.tie = .detached) ∧ i = k + 1) ∨
      ((∀ x ∈ s.claim.list, x.tie = .detached) ∧ s.pos.index = some i) →
    let size := s.claim.list.length
    ∃ n, s.fill.claim.list = s.claim.list ++ ((s.spans.drop i).take n).map (fun p =>
        { seg := p.seg, state := .wanted, tie := .route p.index, spanStart := p.start, advertised := 0, waitStart := none }) ∧
      (∀ k p, k < n → s.spans[i + k]? = some p → p.start - b.front < s.claimReach ∧
        p.seg ∉ (s.fill.claim.list.take (size + k)).map (·.seg) ∧ wantedCount s.claim.list + k < 4 ∧ size + k < 12) ∧
      (∀ p, s.spans[i + n]? = some p → s.claimReach ≤ p.start - b.front ∨ p.seg ∈ s.fill.claim.list.map (·.seg) ∨
        4 ≤ wantedCount s.fill.claim.list ∨ 12 ≤ s.fill.claim.list.length)) ∧
  (∀ (s : State) (b : Body), s.body = some b →
    s.occupy = (s.spans.filter (fun p => decide (p.start < b.front) && decide (b.rear < p.stop))).foldl
      (State.occupyEntry b) (s, [])) ∧
  (∀ (s : State) (b : Body) (out : List Claim) (p : Span),
    let t := (State.occupyEntry b (s, out) p).1
    (p.seg ∈ heldIds s.claim.list → State.occupyEntry b (s, out) p = (s, out)) ∧
    (p.seg ∉ heldIds s.claim.list →
      ({ seg := p.seg, state := .held, tie := .route p.index, spanStart := p.start, advertised := 0,
         waitStart := none } : Claim) ∈ t.claim.list ∧
      (∀ e, t.flag e = (s.flag e || decide (e = .occupyConflict ∧
        ∃ q ∈ s.peers.entries, ∃ h ∈ q.held, h ∈ s.map.conflictSet p.seg))) ∧
      { t with claim := s.claim, port := s.port } = s ∧ { t.port with flags := s.port.flags } = s.port ∧
      (heldCount s.claim.list < 8 → (State.occupyEntry b (s, out) p).2 = out ∧
        (∀ e ∈ s.claim.list, e.state = .held → e ∈ t.claim.list) ∧
        (s.claim.list.Pairwise (fun x y => x.spanStart ≤ y.spanStart) →
          t.claim.list.Pairwise (fun x y => x.spanStart ≤ y.spanStart)) ∧
        (ClaimLaw s.claim.list →
          let entered : Claim := { seg := p.seg, state := .held, tie := .route p.index, spanStart := p.start, advertised := 0,
                                   waitStart := none }
          ((∀ e ∈ s.claim.list, e.seg ≠ p.seg) → t.claim.list.Perm (entered :: s.claim.list)) ∧
          (∀ pre e post, s.claim.list = pre ++ e :: post → e.seg = p.seg →
            t.claim.list.Perm (entered :: (pre ++ if e.tie = .route p.index then post else []))))) ∧
      (8 ≤ heldCount s.claim.list → (State.occupyEntry b (s, out) p).2 = out ++ (s.makeRoom b).2))) ∧
  (∀ (s : State) (b : Body) (pre : List Claim) (x : Claim) (post : List Claim),
    8 ≤ heldCount s.claim.list → s.claim.list = pre ++ x :: post →
    let ahead (e : Claim) : Prop := e.state = .held ∧ b.front ≤ e.spanStart
    let behind (e : Claim) : Prop := e.state = .held ∧ e.spanStart + s.map.lengthOf e.seg ≤ b.rear
    (ahead x → (∀ y ∈ post, ¬ ahead y) → (s.makeRoom b).2 = [] ∧ (s.makeRoom b).1.claim.list =
      pre ++ { x with state := .wanted, advertised := 0, waitStart := none } :: post) ∧
    ((∀ y ∈ s.claim.list, ¬ ahead y) → behind x → (∀ y ∈ pre, ¬ behind y) →
      (s.makeRoom b).2 = [x] ∧ (s.makeRoom b).1.claim.list = pre ++ post) ∧
    ((∀ y ∈ s.claim.list, ¬ ahead y ∧ ¬ behind y) → x.tie = .detached → (∀ y ∈ post, y.tie ≠ .detached) →
      (s.makeRoom b).2 = [x] ∧ (s.makeRoom b).1.claim.list = s.claim.list.erase x))

/-- The law of R95 is kept by filling, by an examination with its cascade, by the release behind the body, by the
double-hold test's turn-back and by a route change's matching; and by a whole event of the Claim Unit, occupancy with its
making of room among its steps (R99, R105, R106), where the event's own effect leaves a list that fits the route. And what
the release and the test do: which entries step 2 releases and drops (R109, R111), and what an accepted notice turns back
and records (R107, R108; that pairs leave before the test is log 37, their order log 38); what a route change drops, detaches
and releases (R110); and the order of the steps of one event with its hand-overs (R99). -/
def Obligations.ClaimLawKept : Prop :=
  (∀ s : State, ClaimLaw s.claim.list →
    ClaimLaw s.fill.claim.list ∧ ClaimLaw s.examine.claim.list ∧ ClaimLaw s.releaseBehind.1.claim.list ∧
    (∀ p, ClaimLaw (ownAccepted p s).1.claim.list) ∧ ClaimLaw (ownRouteChange s).1.claim.list) ∧
  (∀ (own : State → State × List Claim) (exam : Bool) (s : State), ClaimsFit (own s).1 →
    ClaimLaw (claimEvent own exam s).1.claim.list) ∧
  (∀ s : State, (s.body = none → s.releaseBehind = (s, [])) ∧ ∀ b, s.body = some b →
    let beyond (e : Claim) : Prop := s.releaseMargin < b.rear - (e.spanStart + s.map.lengthOf e.seg)
    let goes (e : Claim) : Prop :=
      (e.state = .wanted ∧ e.spanStart + s.map.lengthOf e.seg ≤ b.rear) ∨
      (e.state = .held ∧ (beyond e ∨ (e.tie = .detached ∧ b.front ≤ e.spanStart)))
    s.releaseBehind.1.claim.list.Sublist s.claim.list ∧ s.releaseBehind.2.Sublist s.claim.list ∧
    (∀ e, e ∈ s.releaseBehind.1.claim.list ↔ e ∈ s.claim.list ∧ ¬ goes e) ∧
    (∀ e, e ∈ s.releaseBehind.2 ↔ e ∈ s.claim.list ∧ e.state = .held ∧ goes e)) ∧
  (∀ (s : State) (p : Peer), ClaimLaw s.claim.list →
    let inSet (g : Nat) : Bool := p.held.any (fun h => (s.map.conflictSet g).contains h)
    let kept := s.claim.doubles.filter (fun d => decide (d.1 ≠ p.id) || inSet d.2)
    (s.body = none ∨ ¬ (s.ctl.state = .joining ∨ s.ctl.state = .run) →
      (ownAccepted p s).1 = { s with claim := { s.claim with doubles := kept } }) ∧
    ∀ b, s.body = some b → s.ctl.state = .joining ∨ s.ctl.state = .run →
      let givesWay (e : Claim) : Prop := e.state = .held ∧ inSet e.seg = true ∧ b.front ≤ e.spanStart ∧
        (p.prec < s.claim.prec ∨ (p.prec = s.claim.prec ∧ p.id < s.ctl.id))
      let standing (l : List Claim) : List Nat :=
        ((l.filter (fun e => decide (e.state = .held) && inSet e.seg)).map (·.seg)).filter
          (fun g => !kept.contains (p.id, g))
      let recorded (l : List Claim) := kept ++ ((standing l).take (16 - kept.length)).map (fun g => (p.id, g))
      let t := (ownAccepted p s).1
      ((∀ e ∈ s.claim.list, ¬ givesWay e) →
        t.claim = { s.claim with doubles := recorded s.claim.list } ∧
        (∀ e, t.flag e = (s.flag e || decide (e = .doubleHold ∧ standing s.claim.list ≠ [])))) ∧
      (∀ pre e post, s.claim.list = pre ++ e :: post → givesWay e → (∀ x ∈ pre, ¬ givesWay x) →
        let turned := (pre ++ (e :: post).map (fun x =>
          if x.state = .held then { x with state := .wanted, advertised := 0, waitStart := none } else x)).take (pre.length + 4)
        t.claim = { s.claim with
          list := turned, doubles := (recorded pre).filter (fun d => decide (d.2 ∈ heldIds turned)) } ∧
        (∀ e, t.flag e = (s.flag e || decide (e = .doubleHold ∧ standing pre ≠ [])))) ∧
      { t with claim := s.claim, port := s.port } = s ∧ { t.port with flags := s.port.flags } = s.port) ∧
  (∀ s : State,
    let matched (e : Claim) : Prop := ∃ i r, e.tie = .route i ∧ s.route.entries[i]? = some r ∧ r.seg = e.seg
    let stays (e : Claim) : Bool := match s.body with
      | none => false
      | some b => decide (e.spanStart < b.front ∧ b.rear < e.spanStart + s.map.lengthOf e.seg ∨
          e.spanStart + s.map.lengthOf e.seg ≤ b.rear ∧
          b.rear - (e.spanStart + s.map.lengthOf e.seg) ≤ s.releaseMargin)
    let withList (l : List Claim) : State := { s with claim := { s.claim with
      list := l, doubles := s.claim.doubles.filter (fun d => decide (d.2 ∈ heldIds l)) } }
    ((∀ e ∈ s.claim.list, e.tie = .detached ∨ matched e) → ownRouteChange s = (withList s.claim.list, [])) ∧
    (∀ pre e post, s.claim.list = pre ++ e :: post → (∀ x ∈ pre, x.tie = .detached ∨ matched x) →
      e.tie ≠ .detached → ¬ matched e →
      ownRouteChange s =
        (withList (pre ++ (e :: post).filterMap (fun x =>
          if x.tie = .detached then some x
          else if x.state = .held ∧ stays x = true then some { x with tie := .detached } else none)),
         (e :: post).filter (fun x => decide (x.tie ≠ .detached ∧ x.state = .held ∧ stays x = false))))) ∧
  (∀ (own : State → State × List Claim) (exam : Bool) (s : State),
    let works (u : State) : Prop := u.ctl.state = .joining ∨ u.ctl.state = .run
    let shape (u : State) := u.claim.list.map (fun e => (e.seg, e.state, e.tie, e.spanStart))
    let o := own s
    let behind := o.1.releaseBehind
    let under := behind.1.occupy
    let r := if works o.1 ∧ o.1.pos.quality ≠ .none then (under.1.fill, o.2 ++ behind.2 ++ under.2) else o
    let examined := if (exam = true ∨ shape r.1 ≠ shape s) ∧ works r.1 then r.1.examine else r.1
    let waited := examined.settleWait
    ∃ out : List Claim, out.Perm r.2 ∧ out.Pairwise (fun a b => a.spanStart ≤ b.spanStart) ∧
      let handed := (out.map (·.seg)).foldl State.routeRelease waited
      claimEvent own exam s =
        ((if shape waited ≠ shape s then handed.trim else handed).reportLists, decide (shape waited ≠ shape s)) ∧
      State.claimOnly own exam s =
        if shape waited ≠ shape s then (claimEvent own exam s).1.recompute else (claimEvent own exam s).1)

/-! ### Invariants -/

/-- Every law of Safety.lean that the invariants state holds right after reset. -/
def Obligations.ResetMeetsLaws : Prop :=
  WithinCapacity State.reset ∧ PeersDistinct State.reset ∧ PermitLaw State.reset ∧ PlaceLaw State.reset ∧
  SealLaw State.reset ∧ TablesLaw State.reset.map ∧ CeilingLaw State.reset ∧ ClaimLaw State.reset.claim.list ∧
  ClaimListLaw State.reset

/-- Every step keeps the capacities (R41, R64, R78, R108, R168, R169). -/
def Obligations.CapacityInvariant : Prop :=
  ∀ s t : State, WithinCapacity s → step s = .next t → WithinCapacity t

/-- Every step keeps the law of R78: no station twice, never the own id. -/
def Obligations.PeersInvariant : Prop :=
  ∀ s t : State, PeersDistinct s → step s = .next t → PeersDistinct t

/-- Every step keeps the law of R150: out of RUN, without a position or without a limit in the present direction the
permit line and the ceiling line are low and the code is 0. -/
def Obligations.PermitInvariant : Prop :=
  ∀ s t : State, PermitLaw s → step s = .next t → PermitLaw t

/-- Every step keeps the law of R23: a place exactly when quality is not NONE, on a held entry, within its segment. -/
def Obligations.PlaceInvariant : Prop :=
  ∀ s t : State, PlaceLaw s → step s = .next t → PlaceLaw t

/-- Every step keeps the seal law and the tables' form, and out of CONFIG only a power-on changes the map's contents (R11,
R12, R17): at its own row or, taken under a held reset input, at the release (R163; the kind of that reset is log 19). -/
def Obligations.MapInvariant : Prop :=
  (∀ s t : State, SealLaw s → step s = .next t → SealLaw t) ∧
  (∀ s t : State, TablesLaw s.map → step s = .next t → TablesLaw t.map) ∧
  (∀ (c : Instr) (s t : State), s.ctl.state ≠ .config → (∀ a b d, c ≠ .powerOn a b d) →
    (∀ a b, c ≠ .resetLineRelease a b) ∨ s.pins.powerOnHeld = false → exec c s = .next t →
    t.map.segments = s.map.segments ∧ t.map.windows = s.map.windows ∧ t.map.cranes = s.map.cranes ∧
    t.map.tags = s.map.tags)

/-- Every step keeps the tuning values in their ranges and the ceiling at Vmax or below (R144, R162). -/
def Obligations.CeilingInvariant : Prop :=
  ∀ s t : State, CeilingLaw s → step s = .next t → CeilingLaw t
end

