-- ==== Sys2Proof/Laws/State.lean ====
section
/-! SUPPORT. State.lean: one lemma per field per named update of the state. -/

namespace Sys2Proof.Machine

@[simp] theorem State.reach_clock (d : Nat) (s : State) : (s.reach d).clock = max s.clock d := rfl
@[simp] theorem State.reach_choices (d : Nat) (s : State) : (s.reach d).choices = s.choices := rfl
@[simp] theorem State.reach_pins (d : Nat) (s : State) : (s.reach d).pins = s.pins := rfl
@[simp] theorem State.reach_map (d : Nat) (s : State) : (s.reach d).map = s.map := rfl
@[simp] theorem State.reach_odo (d : Nat) (s : State) : (s.reach d).odo = s.odo := rfl
@[simp] theorem State.reach_pos (d : Nat) (s : State) : (s.reach d).pos = s.pos := rfl
@[simp] theorem State.reach_route (d : Nat) (s : State) : (s.reach d).route = s.route := rfl
@[simp] theorem State.reach_link (d : Nat) (s : State) : (s.reach d).link = s.link := rfl
@[simp] theorem State.reach_sched (d : Nat) (s : State) : (s.reach d).sched = s.sched := rfl
@[simp] theorem State.reach_peers (d : Nat) (s : State) : (s.reach d).peers = s.peers := rfl
@[simp] theorem State.reach_claim (d : Nat) (s : State) : (s.reach d).claim = s.claim := rfl
@[simp] theorem State.reach_bays (d : Nat) (s : State) : (s.reach d).bays = s.bays := rfl
@[simp] theorem State.reach_guide (d : Nat) (s : State) : (s.reach d).guide = s.guide := rfl
@[simp] theorem State.reach_load (d : Nat) (s : State) : (s.reach d).load = s.load := rfl
@[simp] theorem State.reach_line (d : Nat) (s : State) : (s.reach d).line = s.line := rfl
@[simp] theorem State.reach_port (d : Nat) (s : State) : (s.reach d).port = s.port := rfl
@[simp] theorem State.reach_ctl (d : Nat) (s : State) : (s.reach d).ctl = s.ctl := rfl
@[simp] theorem State.reach_pending (d : Nat) (s : State) : (s.reach d).pending = s.pending := rfl

@[simp] theorem State.setClaims_clock (l : List Claim) (s : State) : (s.setClaims l).clock = s.clock := rfl
@[simp] theorem State.setClaims_choices (l : List Claim) (s : State) : (s.setClaims l).choices = s.choices := rfl
@[simp] theorem State.setClaims_pins (l : List Claim) (s : State) : (s.setClaims l).pins = s.pins := rfl
@[simp] theorem State.setClaims_map (l : List Claim) (s : State) : (s.setClaims l).map = s.map := rfl
@[simp] theorem State.setClaims_odo (l : List Claim) (s : State) : (s.setClaims l).odo = s.odo := rfl
@[simp] theorem State.setClaims_pos (l : List Claim) (s : State) : (s.setClaims l).pos = s.pos := rfl
@[simp] theorem State.setClaims_route (l : List Claim) (s : State) : (s.setClaims l).route = s.route := rfl
@[simp] theorem State.setClaims_link (l : List Claim) (s : State) : (s.setClaims l).link = s.link := rfl
@[simp] theorem State.setClaims_sched (l : List Claim) (s : State) : (s.setClaims l).sched = s.sched := rfl
@[simp] theorem State.setClaims_peers (l : List Claim) (s : State) : (s.setClaims l).peers = s.peers := rfl
@[simp] theorem State.setClaims_claim (l : List Claim) (s : State) :
    (s.setClaims l).claim =
      { s.claim with list := l, doubles := s.claim.doubles.filter (fun p => (heldIds l).contains p.2) } := rfl
@[simp] theorem State.setClaims_bays (l : List Claim) (s : State) : (s.setClaims l).bays = s.bays := rfl
@[simp] theorem State.setClaims_guide (l : List Claim) (s : State) : (s.setClaims l).guide = s.guide := rfl
@[simp] theorem State.setClaims_load (l : List Claim) (s : State) : (s.setClaims l).load = s.load := rfl
@[simp] theorem State.setClaims_line (l : List Claim) (s : State) : (s.setClaims l).line = s.line := rfl
@[simp] theorem State.setClaims_port (l : List Claim) (s : State) : (s.setClaims l).port = s.port := rfl
@[simp] theorem State.setClaims_ctl (l : List Claim) (s : State) : (s.setClaims l).ctl = s.ctl := rfl
@[simp] theorem State.setClaims_pending (l : List Claim) (s : State) : (s.setClaims l).pending = s.pending := rfl

@[simp] theorem State.setMap_clock (m : MapStore) (s : State) : (s.setMap m).clock = s.clock := rfl
@[simp] theorem State.setMap_choices (m : MapStore) (s : State) : (s.setMap m).choices = s.choices := rfl
@[simp] theorem State.setMap_pins (m : MapStore) (s : State) : (s.setMap m).pins = s.pins := rfl
@[simp] theorem State.setMap_map (m : MapStore) (s : State) : (s.setMap m).map = m := rfl
@[simp] theorem State.setMap_odo (m : MapStore) (s : State) : (s.setMap m).odo = s.odo := rfl
@[simp] theorem State.setMap_pos (m : MapStore) (s : State) : (s.setMap m).pos = s.pos := rfl
@[simp] theorem State.setMap_route (m : MapStore) (s : State) : (s.setMap m).route = s.route := rfl
@[simp] theorem State.setMap_link (m : MapStore) (s : State) : (s.setMap m).link = s.link := rfl
@[simp] theorem State.setMap_sched (m : MapStore) (s : State) : (s.setMap m).sched = s.sched := rfl
@[simp] theorem State.setMap_peers (m : MapStore) (s : State) : (s.setMap m).peers = s.peers := rfl
@[simp] theorem State.setMap_claim (m : MapStore) (s : State) : (s.setMap m).claim = s.claim := rfl
@[simp] theorem State.setMap_bays (m : MapStore) (s : State) : (s.setMap m).bays = s.bays := rfl
@[simp] theorem State.setMap_guide (m : MapStore) (s : State) : (s.setMap m).guide = s.guide := rfl
@[simp] theorem State.setMap_load (m : MapStore) (s : State) : (s.setMap m).load = s.load := rfl
@[simp] theorem State.setMap_line (m : MapStore) (s : State) : (s.setMap m).line = s.line := rfl
@[simp] theorem State.setMap_port (m : MapStore) (s : State) : (s.setMap m).port = s.port := rfl
@[simp] theorem State.setMap_ctl (m : MapStore) (s : State) : (s.setMap m).ctl = s.ctl := rfl
@[simp] theorem State.setMap_pending (m : MapStore) (s : State) : (s.setMap m).pending = s.pending := rfl

@[simp] theorem State.setCranes_clock (c : List Crane) (s : State) : (s.setCranes c).clock = s.clock := rfl
@[simp] theorem State.setCranes_choices (c : List Crane) (s : State) : (s.setCranes c).choices = s.choices := rfl
@[simp] theorem State.setCranes_pins (c : List Crane) (s : State) : (s.setCranes c).pins = s.pins := rfl
@[simp] theorem State.setCranes_map (c : List Crane) (s : State) : (s.setCranes c).map = s.map := rfl
@[simp] theorem State.setCranes_odo (c : List Crane) (s : State) : (s.setCranes c).odo = s.odo := rfl
@[simp] theorem State.setCranes_pos (c : List Crane) (s : State) : (s.setCranes c).pos = s.pos := rfl
@[simp] theorem State.setCranes_route (c : List Crane) (s : State) : (s.setCranes c).route = s.route := rfl
@[simp] theorem State.setCranes_link (c : List Crane) (s : State) : (s.setCranes c).link = s.link := rfl
@[simp] theorem State.setCranes_sched (c : List Crane) (s : State) : (s.setCranes c).sched = s.sched := rfl
@[simp] theorem State.setCranes_peers (c : List Crane) (s : State) : (s.setCranes c).peers = s.peers := rfl
@[simp] theorem State.setCranes_claim (c : List Crane) (s : State) : (s.setCranes c).claim = s.claim := rfl
@[simp] theorem State.setCranes_bays (c : List Crane) (s : State) :
    (s.setCranes c).bays = { s.bays with cranes := c } := rfl
@[simp] theorem State.setCranes_guide (c : List Crane) (s : State) : (s.setCranes c).guide = s.guide := rfl
@[simp] theorem State.setCranes_load (c : List Crane) (s : State) : (s.setCranes c).load = s.load := rfl
@[simp] theorem State.setCranes_line (c : List Crane) (s : State) : (s.setCranes c).line = s.line := rfl
@[simp] theorem State.setCranes_port (c : List Crane) (s : State) : (s.setCranes c).port = s.port := rfl
@[simp] theorem State.setCranes_ctl (c : List Crane) (s : State) : (s.setCranes c).ctl = s.ctl := rfl
@[simp] theorem State.setCranes_pending (c : List Crane) (s : State) : (s.setCranes c).pending = s.pending := rfl

@[simp] theorem State.setReader_clock (r : Option OpenRead) (s : State) : (s.setReader r).clock = s.clock := rfl
@[simp] theorem State.setReader_choices (r : Option OpenRead) (s : State) : (s.setReader r).choices = s.choices := rfl
@[simp] theorem State.setReader_pins (r : Option OpenRead) (s : State) :
    (s.setReader r).pins = { s.pins with reader := r } := rfl
@[simp] theorem State.setReader_map (r : Option OpenRead) (s : State) : (s.setReader r).map = s.map := rfl
@[simp] theorem State.setReader_odo (r : Option OpenRead) (s : State) : (s.setReader r).odo = s.odo := rfl
@[simp] theorem State.setReader_pos (r : Option OpenRead) (s : State) : (s.setReader r).pos = s.pos := rfl
@[simp] theorem State.setReader_route (r : Option OpenRead) (s : State) : (s.setReader r).route = s.route := rfl
@[simp] theorem State.setReader_link (r : Option OpenRead) (s : State) : (s.setReader r).link = s.link := rfl
@[simp] theorem State.setReader_sched (r : Option OpenRead) (s : State) : (s.setReader r).sched = s.sched := rfl
@[simp] theorem State.setReader_peers (r : Option OpenRead) (s : State) : (s.setReader r).peers = s.peers := rfl
@[simp] theorem State.setReader_claim (r : Option OpenRead) (s : State) : (s.setReader r).claim = s.claim := rfl
@[simp] theorem State.setReader_bays (r : Option OpenRead) (s : State) : (s.setReader r).bays = s.bays := rfl
@[simp] theorem State.setReader_guide (r : Option OpenRead) (s : State) : (s.setReader r).guide = s.guide := rfl
@[simp] theorem State.setReader_load (r : Option OpenRead) (s : State) : (s.setReader r).load = s.load := rfl
@[simp] theorem State.setReader_line (r : Option OpenRead) (s : State) : (s.setReader r).line = s.line := rfl
@[simp] theorem State.setReader_port (r : Option OpenRead) (s : State) : (s.setReader r).port = s.port := rfl
@[simp] theorem State.setReader_ctl (r : Option OpenRead) (s : State) : (s.setReader r).ctl = s.ctl := rfl
@[simp] theorem State.setReader_pending (r : Option OpenRead) (s : State) : (s.setReader r).pending = s.pending := rfl

@[simp] theorem State.flipWdir_clock (s : State) : s.flipWdir.clock = s.clock := rfl
@[simp] theorem State.flipWdir_choices (s : State) : s.flipWdir.choices = s.choices := rfl
@[simp] theorem State.flipWdir_pins (s : State) : s.flipWdir.pins = { s.pins with wdirHigh := !s.pins.wdirHigh } := rfl
@[simp] theorem State.flipWdir_map (s : State) : s.flipWdir.map = s.map := rfl
@[simp] theorem State.flipWdir_odo (s : State) : s.flipWdir.odo = s.odo := rfl
@[simp] theorem State.flipWdir_pos (s : State) : s.flipWdir.pos = s.pos := rfl
@[simp] theorem State.flipWdir_route (s : State) : s.flipWdir.route = s.route := rfl
@[simp] theorem State.flipWdir_link (s : State) : s.flipWdir.link = s.link := rfl
@[simp] theorem State.flipWdir_sched (s : State) : s.flipWdir.sched = s.sched := rfl
@[simp] theorem State.flipWdir_peers (s : State) : s.flipWdir.peers = s.peers := rfl
@[simp] theorem State.flipWdir_claim (s : State) : s.flipWdir.claim = s.claim := rfl
@[simp] theorem State.flipWdir_bays (s : State) : s.flipWdir.bays = s.bays := rfl
@[simp] theorem State.flipWdir_guide (s : State) : s.flipWdir.guide = s.guide := rfl
@[simp] theorem State.flipWdir_load (s : State) : s.flipWdir.load = s.load := rfl
@[simp] theorem State.flipWdir_line (s : State) : s.flipWdir.line = s.line := rfl
@[simp] theorem State.flipWdir_port (s : State) : s.flipWdir.port = s.port := rfl
@[simp] theorem State.flipWdir_ctl (s : State) : s.flipWdir.ctl = s.ctl := rfl
@[simp] theorem State.flipWdir_pending (s : State) : s.flipWdir.pending = s.pending := rfl
@[simp] theorem State.watchDirection_clock (s : State) : s.watchDirection.clock = s.clock := rfl
@[simp] theorem State.watchDirection_choices (s : State) : s.watchDirection.choices = s.choices := rfl
@[simp] theorem State.watchDirection_pins (s : State) : s.watchDirection.pins = s.pins := rfl
@[simp] theorem State.watchDirection_map (s : State) : s.watchDirection.map = s.map := rfl
@[simp] theorem State.watchDirection_pos (s : State) : s.watchDirection.pos = s.pos := rfl
@[simp] theorem State.watchDirection_route (s : State) : s.watchDirection.route = s.route := rfl
@[simp] theorem State.watchDirection_link (s : State) : s.watchDirection.link = s.link := rfl
@[simp] theorem State.watchDirection_sched (s : State) : s.watchDirection.sched = s.sched := rfl
@[simp] theorem State.watchDirection_peers (s : State) : s.watchDirection.peers = s.peers := rfl
@[simp] theorem State.watchDirection_claim (s : State) : s.watchDirection.claim = s.claim := rfl
@[simp] theorem State.watchDirection_bays (s : State) : s.watchDirection.bays = s.bays := rfl
@[simp] theorem State.watchDirection_guide (s : State) : s.watchDirection.guide = s.guide := rfl
@[simp] theorem State.watchDirection_load (s : State) : s.watchDirection.load = s.load := rfl
@[simp] theorem State.watchDirection_line (s : State) : s.watchDirection.line = s.line := rfl
@[simp] theorem State.watchDirection_port (s : State) : s.watchDirection.port = s.port := rfl
@[simp] theorem State.watchDirection_ctl (s : State) : s.watchDirection.ctl = s.ctl := rfl
@[simp] theorem State.watchDirection_pending (s : State) : s.watchDirection.pending = s.pending := rfl

@[simp] theorem State.setPeers_clock (v : PeerView) (s : State) : (s.setPeers v).clock = s.clock := rfl
@[simp] theorem State.setPeers_choices (v : PeerView) (s : State) : (s.setPeers v).choices = s.choices := rfl
@[simp] theorem State.setPeers_pins (v : PeerView) (s : State) : (s.setPeers v).pins = s.pins := rfl
@[simp] theorem State.setPeers_map (v : PeerView) (s : State) : (s.setPeers v).map = s.map := rfl
@[simp] theorem State.setPeers_odo (v : PeerView) (s : State) : (s.setPeers v).odo = s.odo := rfl
@[simp] theorem State.setPeers_pos (v : PeerView) (s : State) : (s.setPeers v).pos = s.pos := rfl
@[simp] theorem State.setPeers_route (v : PeerView) (s : State) : (s.setPeers v).route = s.route := rfl
@[simp] theorem State.setPeers_link (v : PeerView) (s : State) : (s.setPeers v).link = s.link := rfl
@[simp] theorem State.setPeers_sched (v : PeerView) (s : State) : (s.setPeers v).sched = s.sched := rfl
@[simp] theorem State.setPeers_peers (v : PeerView) (s : State) : (s.setPeers v).peers = v := rfl
@[simp] theorem State.setPeers_claim (v : PeerView) (s : State) : (s.setPeers v).claim = s.claim := rfl
@[simp] theorem State.setPeers_bays (v : PeerView) (s : State) : (s.setPeers v).bays = s.bays := rfl
@[simp] theorem State.setPeers_guide (v : PeerView) (s : State) : (s.setPeers v).guide = s.guide := rfl
@[simp] theorem State.setPeers_load (v : PeerView) (s : State) : (s.setPeers v).load = s.load := rfl
@[simp] theorem State.setPeers_line (v : PeerView) (s : State) : (s.setPeers v).line = s.line := rfl
@[simp] theorem State.setPeers_port (v : PeerView) (s : State) : (s.setPeers v).port = s.port := rfl
@[simp] theorem State.setPeers_ctl (v : PeerView) (s : State) : (s.setPeers v).ctl = s.ctl := rfl
@[simp] theorem State.setPeers_pending (v : PeerView) (s : State) : (s.setPeers v).pending = s.pending := rfl

@[simp] theorem State.setCtl_clock (c : StationControl) (s : State) : (s.setCtl c).clock = s.clock := rfl
@[simp] theorem State.setCtl_choices (c : StationControl) (s : State) : (s.setCtl c).choices = s.choices := rfl
@[simp] theorem State.setCtl_pins (c : StationControl) (s : State) : (s.setCtl c).pins = s.pins := rfl
@[simp] theorem State.setCtl_map (c : StationControl) (s : State) : (s.setCtl c).map = s.map := rfl
@[simp] theorem State.setCtl_odo (c : StationControl) (s : State) : (s.setCtl c).odo = s.odo := rfl
@[simp] theorem State.setCtl_pos (c : StationControl) (s : State) : (s.setCtl c).pos = s.pos := rfl
@[simp] theorem State.setCtl_route (c : StationControl) (s : State) : (s.setCtl c).route = s.route := rfl
@[simp] theorem State.setCtl_link (c : StationControl) (s : State) : (s.setCtl c).link = s.link := rfl
@[simp] theorem State.setCtl_sched (c : StationControl) (s : State) : (s.setCtl c).sched = s.sched := rfl
@[simp] theorem State.setCtl_peers (c : StationControl) (s : State) : (s.setCtl c).peers = s.peers := rfl
@[simp] theorem State.setCtl_claim (c : StationControl) (s : State) : (s.setCtl c).claim = s.claim := rfl
@[simp] theorem State.setCtl_bays (c : StationControl) (s : State) : (s.setCtl c).bays = s.bays := rfl
@[simp] theorem State.setCtl_guide (c : StationControl) (s : State) : (s.setCtl c).guide = s.guide := rfl
@[simp] theorem State.setCtl_load (c : StationControl) (s : State) : (s.setCtl c).load = s.load := rfl
@[simp] theorem State.setCtl_line (c : StationControl) (s : State) : (s.setCtl c).line = s.line := rfl
@[simp] theorem State.setCtl_port (c : StationControl) (s : State) : (s.setCtl c).port = s.port := rfl
@[simp] theorem State.setCtl_ctl (c : StationControl) (s : State) : (s.setCtl c).ctl = c := rfl
@[simp] theorem State.setCtl_pending (c : StationControl) (s : State) : (s.setCtl c).pending = s.pending := rfl

@[simp] theorem State.setPort_clock (p : CommandPort) (s : State) : (s.setPort p).clock = s.clock := rfl
@[simp] theorem State.setPort_choices (p : CommandPort) (s : State) : (s.setPort p).choices = s.choices := rfl
@[simp] theorem State.setPort_pins (p : CommandPort) (s : State) : (s.setPort p).pins = s.pins := rfl
@[simp] theorem State.setPort_map (p : CommandPort) (s : State) : (s.setPort p).map = s.map := rfl
@[simp] theorem State.setPort_odo (p : CommandPort) (s : State) : (s.setPort p).odo = s.odo := rfl
@[simp] theorem State.setPort_pos (p : CommandPort) (s : State) : (s.setPort p).pos = s.pos := rfl
@[simp] theorem State.setPort_route (p : CommandPort) (s : State) : (s.setPort p).route = s.route := rfl
@[simp] theorem State.setPort_link (p : CommandPort) (s : State) : (s.setPort p).link = s.link := rfl
@[simp] theorem State.setPort_sched (p : CommandPort) (s : State) : (s.setPort p).sched = s.sched := rfl
@[simp] theorem State.setPort_peers (p : CommandPort) (s : State) : (s.setPort p).peers = s.peers := rfl
@[simp] theorem State.setPort_claim (p : CommandPort) (s : State) : (s.setPort p).claim = s.claim := rfl
@[simp] theorem State.setPort_bays (p : CommandPort) (s : State) : (s.setPort p).bays = s.bays := rfl
@[simp] theorem State.setPort_guide (p : CommandPort) (s : State) : (s.setPort p).guide = s.guide := rfl
@[simp] theorem State.setPort_load (p : CommandPort) (s : State) : (s.setPort p).load = s.load := rfl
@[simp] theorem State.setPort_line (p : CommandPort) (s : State) : (s.setPort p).line = s.line := rfl
@[simp] theorem State.setPort_port (p : CommandPort) (s : State) : (s.setPort p).port = p := rfl
@[simp] theorem State.setPort_ctl (p : CommandPort) (s : State) : (s.setPort p).ctl = s.ctl := rfl
@[simp] theorem State.setPort_pending (p : CommandPort) (s : State) : (s.setPort p).pending = s.pending := rfl

@[simp] theorem State.raise_clock (e : Event) (s : State) : (s.raise e).clock = s.clock := rfl
@[simp] theorem State.raise_choices (e : Event) (s : State) : (s.raise e).choices = s.choices := rfl
@[simp] theorem State.raise_pins (e : Event) (s : State) : (s.raise e).pins = s.pins := rfl
@[simp] theorem State.raise_map (e : Event) (s : State) : (s.raise e).map = s.map := rfl
@[simp] theorem State.raise_odo (e : Event) (s : State) : (s.raise e).odo = s.odo := rfl
@[simp] theorem State.raise_pos (e : Event) (s : State) : (s.raise e).pos = s.pos := rfl
@[simp] theorem State.raise_route (e : Event) (s : State) : (s.raise e).route = s.route := rfl
@[simp] theorem State.raise_link (e : Event) (s : State) : (s.raise e).link = s.link := rfl
@[simp] theorem State.raise_sched (e : Event) (s : State) : (s.raise e).sched = s.sched := rfl
@[simp] theorem State.raise_peers (e : Event) (s : State) : (s.raise e).peers = s.peers := rfl
@[simp] theorem State.raise_claim (e : Event) (s : State) : (s.raise e).claim = s.claim := rfl
@[simp] theorem State.raise_bays (e : Event) (s : State) : (s.raise e).bays = s.bays := rfl
@[simp] theorem State.raise_guide (e : Event) (s : State) : (s.raise e).guide = s.guide := rfl
@[simp] theorem State.raise_load (e : Event) (s : State) : (s.raise e).load = s.load := rfl
@[simp] theorem State.raise_line (e : Event) (s : State) : (s.raise e).line = s.line := rfl
@[simp] theorem State.raise_port (e : Event) (s : State) :
    (s.raise e).port = { s.port with flags := s.port.flags ||| (1#13 <<< e.bit) } := rfl
@[simp] theorem State.raise_ctl (e : Event) (s : State) : (s.raise e).ctl = s.ctl := rfl
@[simp] theorem State.raise_pending (e : Event) (s : State) : (s.raise e).pending = s.pending := rfl

@[simp] theorem State.setPendingNotice_clock (b : Bool) (s : State) : (s.setPendingNotice b).clock = s.clock := rfl
@[simp] theorem State.setPendingNotice_choices (b : Bool) (s : State) :
    (s.setPendingNotice b).choices = s.choices := rfl
@[simp] theorem State.setPendingNotice_pins (b : Bool) (s : State) : (s.setPendingNotice b).pins = s.pins := rfl
@[simp] theorem State.setPendingNotice_map (b : Bool) (s : State) : (s.setPendingNotice b).map = s.map := rfl
@[simp] theorem State.setPendingNotice_odo (b : Bool) (s : State) : (s.setPendingNotice b).odo = s.odo := rfl
@[simp] theorem State.setPendingNotice_pos (b : Bool) (s : State) : (s.setPendingNotice b).pos = s.pos := rfl
@[simp] theorem State.setPendingNotice_route (b : Bool) (s : State) : (s.setPendingNotice b).route = s.route := rfl
@[simp] theorem State.setPendingNotice_link (b : Bool) (s : State) : (s.setPendingNotice b).link = s.link := rfl
@[simp] theorem State.setPendingNotice_sched (b : Bool) (s : State) :
    (s.setPendingNotice b).sched = { s.sched with pendingNotice := b } := rfl
@[simp] theorem State.setPendingNotice_peers (b : Bool) (s : State) : (s.setPendingNotice b).peers = s.peers := rfl
@[simp] theorem State.setPendingNotice_claim (b : Bool) (s : State) : (s.setPendingNotice b).claim = s.claim := rfl
@[simp] theorem State.setPendingNotice_bays (b : Bool) (s : State) : (s.setPendingNotice b).bays = s.bays := rfl
@[simp] theorem State.setPendingNotice_guide (b : Bool) (s : State) : (s.setPendingNotice b).guide = s.guide := rfl
@[simp] theorem State.setPendingNotice_load (b : Bool) (s : State) : (s.setPendingNotice b).load = s.load := rfl
@[simp] theorem State.setPendingNotice_line (b : Bool) (s : State) : (s.setPendingNotice b).line = s.line := rfl
@[simp] theorem State.setPendingNotice_port (b : Bool) (s : State) : (s.setPendingNotice b).port = s.port := rfl
@[simp] theorem State.setPendingNotice_ctl (b : Bool) (s : State) : (s.setPendingNotice b).ctl = s.ctl := rfl
@[simp] theorem State.setPendingNotice_pending (b : Bool) (s : State) :
    (s.setPendingNotice b).pending = s.pending := rfl

@[simp] theorem State.spendSequence_clock (s : State) : s.spendSequence.clock = s.clock := rfl
@[simp] theorem State.spendSequence_choices (s : State) : s.spendSequence.choices = s.choices := rfl
@[simp] theorem State.spendSequence_pins (s : State) : s.spendSequence.pins = s.pins := rfl
@[simp] theorem State.spendSequence_map (s : State) : s.spendSequence.map = s.map := rfl
@[simp] theorem State.spendSequence_odo (s : State) : s.spendSequence.odo = s.odo := rfl
@[simp] theorem State.spendSequence_pos (s : State) : s.spendSequence.pos = s.pos := rfl
@[simp] theorem State.spendSequence_route (s : State) : s.spendSequence.route = s.route := rfl
@[simp] theorem State.spendSequence_link (s : State) : s.spendSequence.link = s.link := rfl
@[simp] theorem State.spendSequence_sched (s : State) :
    s.spendSequence.sched = { s.sched with sequence := (s.sched.sequence + 1) % 256 } := rfl
@[simp] theorem State.spendSequence_peers (s : State) : s.spendSequence.peers = s.peers := rfl
@[simp] theorem State.spendSequence_claim (s : State) : s.spendSequence.claim = s.claim := rfl
@[simp] theorem State.spendSequence_bays (s : State) : s.spendSequence.bays = s.bays := rfl
@[simp] theorem State.spendSequence_guide (s : State) : s.spendSequence.guide = s.guide := rfl
@[simp] theorem State.spendSequence_load (s : State) : s.spendSequence.load = s.load := rfl
@[simp] theorem State.spendSequence_line (s : State) : s.spendSequence.line = s.line := rfl
@[simp] theorem State.spendSequence_port (s : State) : s.spendSequence.port = s.port := rfl
@[simp] theorem State.spendSequence_ctl (s : State) : s.spendSequence.ctl = s.ctl := rfl
@[simp] theorem State.spendSequence_pending (s : State) : s.spendSequence.pending = s.pending := rfl

@[simp] theorem State.placeNotice_clock (n : Notice) (s : State) : (s.placeNotice n).clock = s.clock := rfl
@[simp] theorem State.placeNotice_choices (n : Notice) (s : State) : (s.placeNotice n).choices = s.choices := rfl
@[simp] theorem State.placeNotice_pins (n : Notice) (s : State) : (s.placeNotice n).pins = s.pins := rfl
@[simp] theorem State.placeNotice_map (n : Notice) (s : State) : (s.placeNotice n).map = s.map := rfl
@[simp] theorem State.placeNotice_odo (n : Notice) (s : State) : (s.placeNotice n).odo = s.odo := rfl
@[simp] theorem State.placeNotice_pos (n : Notice) (s : State) : (s.placeNotice n).pos = s.pos := rfl
@[simp] theorem State.placeNotice_route (n : Notice) (s : State) : (s.placeNotice n).route = s.route := rfl
@[simp] theorem State.placeNotice_link (n : Notice) (s : State) :
    (s.placeNotice n).link = { s.link with slot := some { notice := n, frame := framed n.bytes }, replaced := if s.link.slot.isSome then sat16 (s.link.replaced + 1) else s.link.replaced } := rfl
@[simp] theorem State.placeNotice_sched (n : Notice) (s : State) : (s.placeNotice n).sched = s.sched := rfl
@[simp] theorem State.placeNotice_peers (n : Notice) (s : State) : (s.placeNotice n).peers = s.peers := rfl
@[simp] theorem State.placeNotice_claim (n : Notice) (s : State) : (s.placeNotice n).claim = s.claim := rfl
@[simp] theorem State.placeNotice_bays (n : Notice) (s : State) : (s.placeNotice n).bays = s.bays := rfl
@[simp] theorem State.placeNotice_guide (n : Notice) (s : State) : (s.placeNotice n).guide = s.guide := rfl
@[simp] theorem State.placeNotice_load (n : Notice) (s : State) : (s.placeNotice n).load = s.load := rfl
@[simp] theorem State.placeNotice_line (n : Notice) (s : State) : (s.placeNotice n).line = s.line := rfl
@[simp] theorem State.placeNotice_port (n : Notice) (s : State) : (s.placeNotice n).port = s.port := rfl
@[simp] theorem State.placeNotice_ctl (n : Notice) (s : State) : (s.placeNotice n).ctl = s.ctl := rfl
@[simp] theorem State.placeNotice_pending (n : Notice) (s : State) : (s.placeNotice n).pending = s.pending := rfl

@[simp] theorem State.startGuard_clock (s : State) : s.startGuard.clock = s.clock := rfl
@[simp] theorem State.startGuard_choices (s : State) : s.startGuard.choices = s.choices := rfl
@[simp] theorem State.startGuard_pins (s : State) : s.startGuard.pins = s.pins := rfl
@[simp] theorem State.startGuard_map (s : State) : s.startGuard.map = s.map := rfl
@[simp] theorem State.startGuard_odo (s : State) : s.startGuard.odo = s.odo := rfl
@[simp] theorem State.startGuard_pos (s : State) : s.startGuard.pos = s.pos := rfl
@[simp] theorem State.startGuard_route (s : State) : s.startGuard.route = s.route := rfl
@[simp] theorem State.startGuard_link (s : State) : s.startGuard.link = s.link := rfl
@[simp] theorem State.startGuard_sched (s : State) :
    s.startGuard.sched = { s.sched with guard := some (s.after s.promptGuard) } := rfl
@[simp] theorem State.startGuard_peers (s : State) : s.startGuard.peers = s.peers := rfl
@[simp] theorem State.startGuard_claim (s : State) : s.startGuard.claim = s.claim := rfl
@[simp] theorem State.startGuard_bays (s : State) : s.startGuard.bays = s.bays := rfl
@[simp] theorem State.startGuard_guide (s : State) : s.startGuard.guide = s.guide := rfl
@[simp] theorem State.startGuard_load (s : State) : s.startGuard.load = s.load := rfl
@[simp] theorem State.startGuard_line (s : State) : s.startGuard.line = s.line := rfl
@[simp] theorem State.startGuard_port (s : State) : s.startGuard.port = s.port := rfl
@[simp] theorem State.startGuard_ctl (s : State) : s.startGuard.ctl = s.ctl := rfl
@[simp] theorem State.startGuard_pending (s : State) : s.startGuard.pending = s.pending := rfl

@[simp] theorem State.beginSlot_clock (k : Nat) (s : State) : (s.beginSlot k).clock = s.clock := rfl
@[simp] theorem State.beginSlot_choices (k : Nat) (s : State) : (s.beginSlot k).choices = s.choices := rfl
@[simp] theorem State.beginSlot_pins (k : Nat) (s : State) : (s.beginSlot k).pins = s.pins := rfl
@[simp] theorem State.beginSlot_map (k : Nat) (s : State) : (s.beginSlot k).map = s.map := rfl
@[simp] theorem State.beginSlot_odo (k : Nat) (s : State) : (s.beginSlot k).odo = s.odo := rfl
@[simp] theorem State.beginSlot_pos (k : Nat) (s : State) : (s.beginSlot k).pos = s.pos := rfl
@[simp] theorem State.beginSlot_route (k : Nat) (s : State) : (s.beginSlot k).route = s.route := rfl
@[simp] theorem State.beginSlot_link (k : Nat) (s : State) : (s.beginSlot k).link = s.link := rfl
@[simp] theorem State.beginSlot_sched (k : Nat) (s : State) :
    (s.beginSlot k).sched = { s.sched with slotIndex := k, cadence := some (s.after (s.slotInterval k)) } := rfl
@[simp] theorem State.beginSlot_peers (k : Nat) (s : State) : (s.beginSlot k).peers = s.peers := rfl
@[simp] theorem State.beginSlot_claim (k : Nat) (s : State) : (s.beginSlot k).claim = s.claim := rfl
@[simp] theorem State.beginSlot_bays (k : Nat) (s : State) : (s.beginSlot k).bays = s.bays := rfl
@[simp] theorem State.beginSlot_guide (k : Nat) (s : State) : (s.beginSlot k).guide = s.guide := rfl
@[simp] theorem State.beginSlot_load (k : Nat) (s : State) : (s.beginSlot k).load = s.load := rfl
@[simp] theorem State.beginSlot_line (k : Nat) (s : State) : (s.beginSlot k).line = s.line := rfl
@[simp] theorem State.beginSlot_port (k : Nat) (s : State) : (s.beginSlot k).port = s.port := rfl
@[simp] theorem State.beginSlot_ctl (k : Nat) (s : State) : (s.beginSlot k).ctl = s.ctl := rfl
@[simp] theorem State.beginSlot_pending (k : Nat) (s : State) : (s.beginSlot k).pending = s.pending := rfl

end Sys2Proof.Machine
end

