-- ==== Sys2Proof/Laws/Frames.lean ====
section
/-! SUPPORT. Frames.lean: for each shared operation of the Claim Unit, the Route Queue, the Notice Scheduler and the
Guidance Unit, the one statement of what it can change: `ReportFrame`; and what a byte on the reader line does. -/

namespace Sys2Proof.Machine

/-! ### The frame composes -/

theorem ReportFrame.refl (s : State) : ReportFrame s s where
  clock := rfl
  pins := rfl
  map := rfl
  odo := rfl
  peers := rfl
  bays := rfl
  load := rfl
  ctl := rfl
  pending := rfl
  pos := rfl
  link := rfl
  sched := rfl
  port := rfl
  flags := fun _ h => h
  prec := rfl
  suspension := rfl
  clash := rfl
  stop := rfl
  armed := fun h => h
  consumed := ⟨0, by simp⟩

theorem ReportFrame.trans {s t u : State} (h : ReportFrame s t) (k : ReportFrame t u) : ReportFrame s u where
  clock := k.clock.trans h.clock
  pins := k.pins.trans h.pins
  map := k.map.trans h.map
  odo := k.odo.trans h.odo
  peers := k.peers.trans h.peers
  bays := k.bays.trans h.bays
  load := k.load.trans h.load
  ctl := k.ctl.trans h.ctl
  pending := k.pending.trans h.pending
  pos := by
    have h1 := h.pos
    rw [← k.pos] at h1
    exact h1
  link := by
    have h1 := h.link
    rw [← k.link] at h1
    exact h1
  sched := by
    have h1 := h.sched
    rw [← k.sched] at h1
    exact h1
  port := by
    have h1 := h.port
    rw [← k.port] at h1
    exact h1
  flags := fun e he => k.flags e (h.flags e he)
  prec := k.prec.trans h.prec
  suspension := k.suspension.trans h.suspension
  clash := k.clash.trans h.clash
  stop := k.stop.trans h.stop
  armed := fun ha => h.armed (k.armed ha)
  consumed := by
    obtain ⟨a, ha, ia⟩ := h.consumed
    obtain ⟨b, hb, ib⟩ := k.consumed
    refine ⟨a + b, by rw [hb, ha, List.drop_drop], ?_, ?_⟩
    · rw [ib.1, ia.1]
      cases s.pos.index <;> simp [Nat.sub_sub]
    · have h1 := ia.2
      have h2 := ib.2
      rw [ia.1] at h2
      cases hi : s.pos.index <;> simp [hi] at h1 h2 ⊢ <;> omega

/-! ### Flags -/

theorem State.flag_raise (e f : Event) (s : State) (h : s.flag e = true) : (s.raise f).flag e = true := by
  simp only [State.flag, State.raise_port, BitVec.getLsbD_or] at *
  rw [h]
  rfl

/-- Raising an event sets its flag and no other (R173). -/
theorem State.flag_raise_eq (e f : Event) (s : State) : (s.raise f).flag e = (s.flag e || decide (e = f)) := by
  cases e <;> cases f <;> simp [State.raise, State.flag, Event.bit]

theorem State.raise_frame (e : Event) (s : State) : ReportFrame s (s.raise e) :=
  { ReportFrame.refl s with
    clock := rfl, pins := rfl, map := rfl, odo := rfl, peers := rfl, bays := rfl, load := rfl, ctl := rfl,
    pending := rfl, pos := rfl, link := rfl, sched := rfl, port := rfl, prec := rfl, suspension := rfl, clash := rfl,
    stop := rfl, armed := fun h => h, consumed := ⟨0, by simp⟩, flags := fun f h => State.flag_raise f e s h }

theorem State.raiseIf_frame (c : Bool) (e : Event) (s : State) : ReportFrame s (s.raiseIf c e) := by
  cases c
  · exact ReportFrame.refl s
  · exact s.raise_frame e

/-- A change of the claim unit that keeps the class and the suspensions. -/
theorem claimUnit_frame (c : ClaimUnit) (s : State) (h1 : c.prec = s.claim.prec)
    (h2 : c.satSuspension = s.claim.satSuspension) (h3 : c.clash = s.claim.clash) : ReportFrame s { s with claim := c } :=
  { ReportFrame.refl s with
    clock := rfl, pins := rfl, map := rfl, odo := rfl, peers := rfl, bays := rfl, load := rfl, ctl := rfl,
    pending := rfl, pos := rfl, link := rfl, sched := rfl, port := rfl, flags := fun _ h => h, prec := h1,
    suspension := h2, clash := h3, stop := rfl, armed := fun h => h, consumed := ⟨0, by simp⟩ }

theorem State.setClaims_frame (l : List Claim) (s : State) : ReportFrame s (s.setClaims l) :=
  claimUnit_frame _ s rfl rfl rfl

theorem State.raiseFaceOff_frame (p : Nat) (s : State) : ReportFrame s (s.raiseFaceOff p) :=
  { s.raise_frame .faceOff with
    clock := rfl, pins := rfl, map := rfl, odo := rfl, peers := rfl, bays := rfl, load := rfl, ctl := rfl,
    pending := rfl, pos := rfl, link := rfl, sched := rfl, port := rfl, prec := rfl, suspension := rfl, clash := rfl,
    stop := rfl, armed := fun h => h, consumed := ⟨0, by simp [State.raiseFaceOff]⟩,
    flags := fun f h => State.flag_raise f .faceOff s h }

/-! ### The Notice Scheduler (R66, R73) -/

theorem State.buildPosition_frame (s : State) : ReportFrame s s.buildPosition :=
  { ReportFrame.refl s with
    clock := rfl, pins := rfl, map := rfl, odo := rfl, peers := rfl, bays := rfl, load := rfl, ctl := rfl,
    pending := rfl, pos := rfl, link := rfl, sched := rfl, port := rfl, flags := fun _ h => h, prec := rfl,
    suspension := rfl, clash := rfl, stop := rfl, armed := fun h => h, consumed := ⟨0, by simp [State.buildPosition]⟩ }

theorem State.startGuard_frame (s : State) : ReportFrame s s.startGuard :=
  { ReportFrame.refl s with
    clock := rfl, pins := rfl, map := rfl, odo := rfl, peers := rfl, bays := rfl, load := rfl, ctl := rfl,
    pending := rfl, pos := rfl, link := rfl, sched := rfl, port := rfl, flags := fun _ h => h, prec := rfl,
    suspension := rfl, clash := rfl, stop := rfl, armed := fun h => h, consumed := ⟨0, by simp⟩ }

theorem State.setPendingNotice_frame (b : Bool) (s : State) : ReportFrame s (s.setPendingNotice b) :=
  { ReportFrame.refl s with
    clock := rfl, pins := rfl, map := rfl, odo := rfl, peers := rfl, bays := rfl, load := rfl, ctl := rfl,
    pending := rfl, pos := rfl, link := rfl, sched := rfl, port := rfl, flags := fun _ h => h, prec := rfl,
    suspension := rfl, clash := rfl, stop := rfl, armed := fun h => h, consumed := ⟨0, by simp⟩ }

/-- A list change builds a notice, or sets or clears the pending flag, and changes nothing else (R73). -/
theorem State.listChange_frame (s : State) : ReportFrame s s.listChange := by
  unfold State.listChange
  split
  · split
    · exact s.buildPosition_frame.trans s.buildPosition.startGuard_frame
    · exact s.setPendingNotice_frame true
  · exact s.setPendingNotice_frame false

/-! ### The Route Queue (R54, R55, R56) -/

/-- One entry is taken from the front, and the route index follows its entry (R26). -/
theorem State.removeFront_frame (s : State) (hp : s.indexPastFront = true) : ReportFrame s s.removeFront := by
  unfold State.removeFront
  split
  · exact ReportFrame.refl s
  · rename_i e rest h
    exact { ReportFrame.refl s with
      clock := rfl, pins := rfl, map := rfl, odo := rfl, peers := rfl, bays := rfl, load := rfl, ctl := rfl,
      pending := rfl, pos := rfl, link := rfl, sched := rfl, port := rfl, flags := fun _ h => h, prec := rfl,
      suspension := rfl, clash := rfl, stop := rfl, armed := fun h => h, consumed := ⟨1, by simp [h], rfl, by
        unfold State.indexPastFront at hp
        split at hp
        · rename_i i hi
          simpa [hi] using hp
        · simp at hp⟩ }

theorem State.routeRelease_frame (s : State) (seg : Nat) : ReportFrame s (s.routeRelease seg) := by
  unfold State.routeRelease
  split
  · exact ReportFrame.refl s
  · split
    · rename_i h
      exact s.removeFront_frame h.2
    · exact ReportFrame.refl s

theorem State.trimsFront_past (s : State) (h : s.trimsFront = true) : s.indexPastFront = true := by
  unfold State.trimsFront at h
  split at h
  · simp only [Bool.and_eq_true] at h
    exact h.1.1
  · simp at h

theorem trimRepeat_frame (n : Nat) (s : State) : ReportFrame s (trimRepeat n s) := by
  induction n generalizing s with
  | zero => exact ReportFrame.refl s
  | succ n ih =>
    unfold trimRepeat
    split
    · rename_i h
      exact (s.removeFront_frame (s.trimsFront_past h)).trans (ih _)
    · exact ReportFrame.refl s

theorem State.trim_frame (s : State) : ReportFrame s s.trim := trimRepeat_frame _ s

theorem State.testArrival_frame (s : State) : ReportFrame s s.testArrival := by
  unfold State.testArrival
  split
  · exact { State.raise_frame .arrived { s with route := { s.route with armed := false } } with
      clock := rfl, pins := rfl, map := rfl, odo := rfl, peers := rfl, bays := rfl, load := rfl, ctl := rfl,
      pending := rfl, pos := rfl, link := rfl, sched := rfl, port := rfl, prec := rfl, suspension := rfl, clash := rfl,
      stop := rfl, armed := fun h => by simp at h, consumed := ⟨0, by simp⟩,
      flags := fun f h => State.flag_raise f .arrived _ h }
  · exact ReportFrame.refl s

/-- The conditions of R56, as the test reads them. -/
theorem State.arrives_iff (s : State) : s.arrives = true ↔ AtStop s := by
  unfold State.arrives AtStop
  split
  · next d i hd hi =>
    simp only [hd, hi, State.placed, Bool.and_eq_true, beq_iff_eq, bne_iff_ne, decide_eq_true_eq]
    constructor
    · rintro ⟨⟨⟨⟨⟨ha, hq⟩, hm⟩, hl⟩, h1⟩, h2⟩
      exact ⟨d, i, rfl, rfl, ha, hq, hm, hl, by omega, by omega⟩
    · rintro ⟨_, _, ⟨⟩, ⟨⟩, ha, hq, hm, hl, h1, h2⟩
      exact ⟨⟨⟨⟨⟨ha, hq⟩, hm⟩, hl⟩, by omega⟩, by omega⟩
  · next hn =>
    constructor
    · exact nofun
    · rintro ⟨d, i, hd, hi, _⟩
      exact absurd hi (hn d i hd)

/-- What the arrival test does (R56). -/
theorem State.testArrival_test (s : State) : ArrivalTest s s.testArrival := by
  by_cases h : s.arrives = true
  · exact ⟨fun _ => by simp [State.testArrival, h, State.flag_raise_eq], fun k => absurd (s.arrives_iff.1 h) k⟩
  · exact ⟨fun k => absurd (s.arrives_iff.2 k) h, fun _ => by simp [State.testArrival, h]⟩

/-! ### The steps of R99 -/

theorem State.releaseBehind_frame (s : State) : ReportFrame s s.releaseBehind.1 := by
  unfold State.releaseBehind
  split
  · exact ReportFrame.refl s
  · exact s.setClaims_frame _

theorem State.makeRoom_frame (s : State) (b : Body) : ReportFrame s (s.makeRoom b).1 := by
  unfold State.makeRoom
  split
  · exact ReportFrame.refl s
  · split
    · exact s.setClaims_frame _
    · split
      · exact s.setClaims_frame _
      · split
        · exact s.setClaims_frame _
        · exact ReportFrame.refl s

/-- What occupancy takes a listed entry out of keeps its order. -/
theorem takeListed_sublist (p : Span) (l : List Claim) : (takeListed p l).Sublist l := by
  induction l with
  | nil => exact .slnil
  | cons e rest ih =>
    rw [takeListed]
    split
    · split
      · exact .cons _ (.refl _)
      · exact .cons _ List.filter_sublist
    · exact ih.cons_cons e

/-- In a list that names no segment twice, occupancy takes the entry of its segment out. -/
theorem takeListed_free (p : Span) (l : List Claim) (h : (l.map (·.seg)).Nodup) : ∀ e ∈ takeListed p l, e.seg ≠ p.seg := by
  induction l with
  | nil => simp [takeListed]
  | cons e rest ih =>
    simp only [List.map_cons, List.nodup_cons, List.mem_map, not_exists, not_and] at h
    rw [takeListed]
    split
    · rename_i hs
      have : ∀ x ∈ rest, x.seg ≠ p.seg := fun x hx => by simpa [← beq_iff_eq.mp hs] using h.1 x hx
      split
      · exact this
      · exact fun x hx => this x (List.mem_filter.mp hx).1
    · rename_i hs
      simpa [List.forall_mem_cons] using ⟨by simpa using hs, ih h.2⟩

theorem State.occupyEntry_frame (b : Body) (acc : State × List Claim) (sp : Span) :
    ReportFrame acc.1 (State.occupyEntry b acc sp).1 := by
  unfold State.occupyEntry
  dsimp only
  split
  · exact ReportFrame.refl _
  · exact ((State.makeRoom_frame _ b).trans (State.setClaims_frame _ _)).trans (State.raiseIf_frame _ _ _)

theorem occupyFold_frame (b : Body) (l : List Span) (acc : State × List Claim) :
    ReportFrame acc.1 (l.foldl (State.occupyEntry b) acc).1 := by
  induction l generalizing acc with
  | nil => exact ReportFrame.refl _
  | cons p rest ih => exact (State.occupyEntry_frame b acc p).trans (ih _)

theorem State.occupy_frame (s : State) : ReportFrame s s.occupy.1 := by
  unfold State.occupy
  split
  · exact ReportFrame.refl s
  · exact occupyFold_frame _ _ (s, [])

theorem fillRepeat_frame (n : Nat) (s : State) : ReportFrame s (fillRepeat n s) := by
  induction n generalizing s with
  | zero => exact ReportFrame.refl s
  | succ n ih =>
    unfold fillRepeat
    split
    · exact (s.setClaims_frame _).trans (ih _)
    · exact ReportFrame.refl s

theorem State.fill_frame (s : State) : ReportFrame s s.fill := fillRepeat_frame _ s

theorem cascade_frame (n : Nat) (s : State) : ReportFrame s (cascade n s).1 := by
  induction n generalizing s with
  | zero => exact ReportFrame.refl s
  | succ n ih =>
    unfold cascade
    split
    · exact ReportFrame.refl s
    · split
      · exact (s.setClaims_frame _).trans (ih _)
      · exact ReportFrame.refl s

theorem State.testFaceOff_frame (s : State) : ReportFrame s s.testFaceOff := by
  unfold State.testFaceOff
  split
  · exact claimUnit_frame _ s rfl rfl rfl
  · rename_i p _
    have h := claimUnit_frame { s.claim with faceOff := some { peer := p.id, yields := s.outranks p } } s rfl rfl rfl
    dsimp only
    split
    · split
      · exact h
      · exact h.trans (State.raiseFaceOff_frame _ _)
    · exact h.trans (State.raiseFaceOff_frame _ _)

theorem State.settleWait_frame (s : State) : ReportFrame s s.settleWait := claimUnit_frame _ s rfl rfl rfl

theorem State.reportLists_frame (s : State) : ReportFrame s s.reportLists := by
  unfold State.reportLists
  split
  · exact ReportFrame.refl s
  · refine ReportFrame.trans ?_ (State.listChange_frame _)
    exact claimUnit_frame { s.claim with lastHeld := heldIds s.claim.list, lastWanted := wantedIds s.claim.list } s rfl rfl
      rfl

theorem claimSteps_frame (r : State × List Claim) : ReportFrame r.1 (claimSteps r).1 := by
  unfold claimSteps
  split
  · exact (r.1.releaseBehind_frame.trans (State.occupy_frame _)).trans (State.fill_frame _)
  · exact ReportFrame.refl _

theorem State.examine_frame (s : State) : ReportFrame s s.examine := by
  unfold State.examine
  dsimp only
  have h := (cascade_frame Config.claimCapacity s).trans (State.testFaceOff_frame _)
  split
  · exact h.trans (State.fill_frame _)
  · exact h

theorem releases_frame (l : List Nat) (s : State) : ReportFrame s (l.foldl State.routeRelease s) := by
  induction l generalizing s with
  | nil => exact ReportFrame.refl s
  | cons g rest ih => exact (s.routeRelease_frame g).trans (ih _)

/-- One event of the Claim Unit: after the event's own effect, nothing but what `ReportFrame` names changes. -/
theorem claimEvent_frame (own : State → State × List Claim) (exam : Bool) (s : State) :
    ReportFrame (own s).1 (claimEvent own exam s).1 := by
  unfold claimEvent
  dsimp only
  have h1 := claimSteps_frame (own s)
  refine ReportFrame.trans h1 ?_
  generalize hr : claimSteps (own s) = r
  generalize decide (r.1.claim.list.map Claim.shape ≠ s.claim.list.map Claim.shape) = ch
  have h2 : ReportFrame r.1 (if ((exam || ch) && r.1.working) = true then r.1.examine else r.1) := by
    split
    · exact r.1.examine_frame
    · exact ReportFrame.refl _
  refine h2.trans ?_
  generalize (if ((exam || ch) && r.1.working) = true then r.1.examine else r.1) = u
  have h3 := u.settleWait_frame.trans (releases_frame (releaseOrder r.2) _)
  refine h3.trans ?_
  split
  · exact (State.trim_frame _).trans (State.reportLists_frame _)
  · exact State.reportLists_frame _

/-! ### The Guidance Unit (R133) -/

/-- A new record and what its hand-over did to the lines. -/
theorem State.setGuide_frame (g : Guidance) (d : Drive) (s : State) : ReportFrame s (s.setGuide g d) := by
  unfold State.setGuide
  refine ReportFrame.trans ?_ (State.raiseIf_frame _ _ _)
  exact { ReportFrame.refl s with
    clock := rfl, pins := rfl, map := rfl, odo := rfl, peers := rfl, bays := rfl, load := rfl, ctl := rfl,
    pending := rfl, pos := rfl, link := rfl, sched := rfl, port := rfl, flags := fun _ h => h, prec := rfl,
    suspension := rfl, clash := rfl, stop := rfl, armed := fun h => h, consumed := ⟨0, by simp⟩ }

theorem State.recompute_frame (s : State) : ReportFrame s s.recompute := s.setGuide_frame _ _

theorem choices_frame (n : Nat) (s : State) : ReportFrame s { s with choices := n } :=
  { ReportFrame.refl s with
    clock := rfl, pins := rfl, map := rfl, odo := rfl, peers := rfl, bays := rfl, load := rfl, ctl := rfl,
    pending := rfl, pos := rfl, link := rfl, sched := rfl, port := rfl, flags := fun _ h => h, prec := rfl,
    suspension := rfl, clash := rfl, stop := rfl, armed := fun h => h, consumed := ⟨0, by simp⟩ }

/-- A guided event changes, after what its own work did, nothing but what `ReportFrame` names. -/
theorem State.guided_frame (k : State → State) (s : State) : ReportFrame (k s) (s.guided k) := by
  unfold State.guided
  dsimp only
  split
  · exact State.setGuide_frame _ _ _
  · split
    · exact (choices_frame _ _).trans (State.setGuide_frame _ _ _)
    · exact (choices_frame _ _).trans (State.setGuide_frame _ _ _)

theorem State.claimOnly_frame (own : State → State × List Claim) (exam : Bool) (s : State) :
    ReportFrame (own s).1 (s.claimOnly own exam) := by
  unfold State.claimOnly
  dsimp only
  split
  · exact (claimEvent_frame own exam s).trans (State.recompute_frame _)
  · exact claimEvent_frame own exam s

theorem State.raiseIf_guidance (c : Bool) (e : Event) (s : State) : (s.raiseIf c e).guidance = s.guidance := by
  cases c <;> rfl

/-- The record, the lines and the flags are no input of the guidance record. -/
theorem State.setGuide_guidance (g : Guidance) (d : Drive) (s : State) : (s.setGuide g d).guidance = s.guidance :=
  State.raiseIf_guidance _ _ _

theorem State.setGuide_guide (g : Guidance) (d : Drive) (s : State) : (s.setGuide g d).guide = g := by
  simp only [State.setGuide, State.raiseIf]
  split <;> rfl

/-- After a guided event the record is that of the inputs its work left. -/
theorem State.guided_guide (k : State → State) (s : State) : (s.guided k).guide = (k s).guidance := by
  simp only [State.guided]
  split
  · rw [State.setGuide_guide]
  · split <;> rw [State.setGuide_guide]

/-- After a guided event the record is that of the inputs as they stand. -/
theorem State.guided_current (k : State → State) (s : State) : (s.guided k).guide = (s.guided k).guidance := by
  simp only [State.guided]
  split
  · rw [State.setGuide_guide, State.setGuide_guidance]
  · split <;> rw [State.setGuide_guide, State.setGuide_guidance] <;> rfl

theorem State.recompute_current (s : State) : s.recompute.guide = s.recompute.guidance := by
  rw [State.recompute, State.setGuide_guide, State.setGuide_guidance]

/-- The guidance record after a recomputation is that of the inputs as they stand (R133). -/
theorem State.recompute_guide (s : State) : s.recompute.guide = s.guidance := by
  unfold State.recompute State.setGuide State.raiseIf
  split <;> rfl

theorem State.reportPosition_frame (s : State) : ReportFrame s s.reportPosition :=
  ((s.testArrival_frame.trans (claimEvent_frame ownNothing true s.testArrival)).trans (State.trim_frame _)).trans
    (State.guided_frame (fun t => ((claimEvent ownNothing true t.testArrival).1).trim) s)

theorem State.reportIf_frame (c : Bool) (s : State) : ReportFrame s (s.reportIf c) := by
  cases c
  · exact ReportFrame.refl s
  · exact s.reportPosition_frame

theorem State.reportBays_frame (s : State) : ReportFrame s s.reportBays :=
  (claimEvent_frame ownNothing true s).trans (State.guided_frame (fun t => (claimEvent ownNothing true t).1) s)

theorem ownRouteChange_frame (s : State) : ReportFrame s (ownRouteChange s).1 := s.setClaims_frame _

theorem State.reportRoute_frame (s : State) : ReportFrame s s.reportRoute :=
  (s.testArrival_frame.trans ((ownRouteChange_frame _).trans (claimEvent_frame ownRouteChange true s.testArrival))).trans
    (State.guided_frame (fun t => (claimEvent ownRouteChange true t.testArrival).1) s)

/-! ### Step 1 of the events (R101, R107, R108) -/

theorem ownAdvertise_frame (w : List Nat) (s : State) : ReportFrame s (ownAdvertise w s).1 := s.setClaims_frame _

theorem State.recordDouble_frame (peer seg : Nat) (s : State) : ReportFrame s (s.recordDouble peer seg) := by
  unfold State.recordDouble
  split
  · exact ReportFrame.refl s
  · dsimp only
    split
    · exact (s.raise_frame _).trans (claimUnit_frame _ _ rfl rfl rfl)
    · exact s.raise_frame _

theorem doubleHoldWalk_frame (b : Body) (p : Peer) (l : List Claim) (s : State) : ReportFrame s (doubleHoldWalk b p l s) := by
  induction l generalizing s with
  | nil => exact ReportFrame.refl s
  | cons e rest ih =>
    unfold doubleHoldWalk
    split
    · split
      · exact s.setClaims_frame _
      · exact (s.recordDouble_frame _ _).trans (ih _)
    · exact ih s

theorem ownAccepted_frame (p : Peer) (s : State) : ReportFrame s (ownAccepted p s).1 := by
  unfold ownAccepted
  dsimp only
  refine ReportFrame.trans (claimUnit_frame { s.claim with doubles := (s.claim.doubles.filter
    (fun d => d.1 != p.id || s.map.conflictHit p.held d.2)) } s rfl rfl rfl) ?_
  split
  · split
    · exact doubleHoldWalk_frame _ _ _ _
    · exact ReportFrame.refl _
  · exact ReportFrame.refl _

theorem ownRemoval_frame (id : Nat) (s : State) : ReportFrame s (ownRemoval id s).1 := claimUnit_frame _ s rfl rfl rfl

theorem ownSeed_frame (s : State) : ReportFrame s (ownSeed s).1 := claimUnit_frame _ s rfl rfl rfl

theorem ownLeaving_frame (s : State) : ReportFrame s (ownLeaving s).1 := claimUnit_frame _ s rfl rfl rfl

theorem ownStart_frame (s : State) : ReportFrame s (ownStart s).1 := claimUnit_frame _ s rfl rfl rfl

/-! ### Reports of the Peer View (R93) -/

theorem State.reportAccepted_frame (p : Peer) (s : State) : ReportFrame s (s.reportAccepted p) :=
  (ownAccepted_frame p s).trans (s.claimOnly_frame _ _)

theorem State.reportStatus_frame (s : State) : ReportFrame s s.reportStatus := s.claimOnly_frame ownNothing true

theorem State.reportRemoval_frame (id : Nat) (s : State) : ReportFrame s (s.reportRemoval id) :=
  (ownRemoval_frame id s).trans (s.claimOnly_frame _ _)

/-! ### Motion, credit and the reader line -/

/-- Refreshing the effective motion leaves it current; the rest is the report's (R37). -/
theorem State.followMotion_frame (s : State) :
    ReportFrame { s with pos := { s.pos with motion := s.effectiveMotion } } s.followMotion :=
  State.reportIf_frame _ _

/-- A read's credit and its report (R24, R28). -/
theorem State.creditReported_frame (s : State) : ReportFrame s.credit s.creditReported := State.reportIf_frame _ _

/-- The four bytes after the lead byte of an open read are kept (R178). -/
theorem State.readerByte_kept (b : Byte) (r : OpenRead) (s : State) (h : s.pins.reader = some r) (hg : s.clock ≤ r.gapEnd)
    (hl : r.bytes.length < 4) : s.readerByte b = s.readWith (r.bytes ++ [b]) := by
  simp [State.readerByte, h, State.gapPassed, Nat.not_lt.mpr hg, hl]

/-- Five bytes on a read just opened end it (R178). -/
theorem State.tagRead_open (b1 b2 b3 b4 b5 : Byte) (r : OpenRead) (s : State) (h : s.pins.reader = some r)
    (hg : s.clock ≤ r.gapEnd) (hb : r.bytes = []) :
    s.tagRead b1 b2 b3 b4 b5 = (s.setReader none).endRead [b1, b2, b3, b4, b5] := by
  simp [State.tagRead, State.readerByte, h, State.gapPassed, Nat.not_lt.mpr hg, hb, State.readWith, State.setReader,
    Config.readerGapLimit]

end Sys2Proof.Machine
end

