-- ==== Sys2Proof/Laws/Port.lean ====
section
/-! SUPPORT. Port.lean: the Command Port's shared operations: what taking a command comes to. -/

namespace Sys2Proof.Machine

theorem CommandPort.placeMany_nil (n : Nat) (p : CommandPort) (h : p.waiting = []) : CommandPort.placeMany n p = p := by
  induction n generalizing p with
  | zero => rfl
  | succ n ih =>
    have h1 : p.placeOne = p := by simp [CommandPort.placeOne, h]
    rw [CommandPort.placeMany, h1]
    exact ih p h

/-- Where no reply waits, nothing is placed. -/
theorem State.settle_quiet (s : State) (h : s.port.waiting = []) : s.settle = s := by
  simp only [State.settle, CommandPort.placeAll, CommandPort.placeMany_nil _ _ h]
  rfl

/-- A port with no walk, no RESTART and no waiting reply takes what it is given. -/
theorem State.atPort_open (k : State → State) (s : State) (h1 : s.map.sealing = false) (h2 : s.port.restarting = false)
    (h3 : s.port.waiting = []) : s.atPort k = k s := by
  simp [State.atPort, State.settle_quiet s h3, State.busy, h1, h2, h3]

/-- A port under a walk or a RESTART takes nothing. -/
theorem State.atPort_shut (k : State → State) (s : State) (h : s.map.sealing = true ∨ s.port.restarting = true) :
    s.atPort k = s := by
  have hr : ∀ n p, (CommandPort.placeMany n p).restarting = p.restarting := by
    intro n
    induction n with
    | zero => intro p; rfl
    | succ n ih =>
      intro p
      rw [CommandPort.placeMany, ih]
      unfold CommandPort.placeOne
      split
      · rfl
      · split <;> rfl
  have hb : s.settle.busy = true := by
    rcases h with h | h
    · simp [State.busy, State.settle, h]
    · simp [State.busy, State.settle, CommandPort.placeAll, hr, h]
  simp [State.atPort, hb]

/-- A free port hands a whole command over at once. -/
theorem State.takeCommand_free (c : Cmd) (vals : List Nat) (s : State) (h : PortFree s) :
    s.takeCommand c vals = s.handOver c vals := by
  rw [State.takeCommand, State.atPort_open _ s h.walk h.restart h.waiting, State.breakOpen, h.closed]

/-- A row that is a command is the taking of that command. -/
theorem exec_command (i : Instr) (c : Cmd) (vals : List Nat) (s : State) (h : commandOf i = some (c, vals)) :
    exec i s = .next (s.unlessHeld (State.takeCommand c vals)) := by
  cases i <;> simp only [commandOf, Option.some.injEq, Prod.mk.injEq, reduceCtorEq] at h <;>
    (obtain ⟨rfl, rfl⟩ := h; rfl)

/-- At a free port a row that is a command hands it over, and its reply waits. -/
theorem exec_free (i : Instr) (c : Cmd) (vals : List Nat) (s : State) (h : PortFree s) (hc : commandOf i = some (c, vals)) :
    exec i s = .next (s.handOver c vals) := by
  rw [exec_command i c vals s hc, State.unlessHeld, h.running, ← State.takeCommand_free c vals s h]
  rfl

/-- A command that is taken goes to its owner (R170). -/
theorem State.handOver_taken (c : Cmd) (vals : List Nat) (s : State) (h : c.takenIn s.ctl.state = true) :
    s.handOver c vals = (c.run vals s).1.queueReply (c.run vals s).2 := by
  simp [State.handOver, Cmd.act, h]

/-- A command that is not taken is refused, and its owner never sees it (R170). -/
theorem State.handOver_refused (c : Cmd) (vals : List Nat) (s : State) (h : c.takenIn s.ctl.state = false) :
    s.handOver c vals = s.replied .refusedState [] := by
  simp [State.handOver, Cmd.act, h, State.refuse, State.queueReply, State.replied, Reply.plain]

/-- A row that is a command, at a free port in a state that takes it: the owner's answer. -/
theorem exec_taken (i : Instr) (c : Cmd) (vals : List Nat) (s : State) (h : PortFree s) (hc : commandOf i = some (c, vals))
    (ht : c.takenIn s.ctl.state = true) : exec i s = .next ((c.run vals s).1.queueReply (c.run vals s).2) := by
  rw [exec_free i c vals s h hc, State.handOver_taken _ _ _ ht]

/-- The owner's reply, queued. -/
theorem State.queueReply_some (r : Reply) (s : State) : s.queueReply (some r) = s.replied r.status r.data := rfl

end Sys2Proof.Machine
end

