-- ==== Sys2Proof/Laws/Tables.lean ====
section
/-! SUPPORT. Tables.lean: the slot tables of the Map Store: a write is read back, leaves the other slots, and keeps
the canonical form. -/

namespace Sys2Proof.Machine

variable {α : Type}

theorem tableGet_put_same (k : Nat) (v : α) (t : List (Nat × α)) : tableGet k (tablePut k v t) = some v := by
  induction t with
  | nil => simp [tablePut, tableGet]
  | cons p rest ih =>
    obtain ⟨j, w⟩ := p
    simp only [tablePut]
    split
    · simp [tableGet]
    · split
      · simp [tableGet]
      · rename_i h
        simp [tableGet, h, ih]

theorem tableGet_put_other (k j : Nat) (v : α) (t : List (Nat × α)) (h : j ≠ k) :
    tableGet j (tablePut k v t) = tableGet j t := by
  induction t with
  | nil => simp [tablePut, tableGet, Ne.symm h]
  | cons p rest ih =>
    obtain ⟨i, w⟩ := p
    simp only [tablePut]
    split
    · simp [tableGet, Ne.symm h]
    · split
      · rename_i hik
        subst hik
        simp [tableGet, Ne.symm h]
      · simp only [tableGet, ih]

theorem tableGet_drop_same (k : Nat) (t : List (Nat × α)) : tableGet k (tableDrop k t) = none := by
  induction t with
  | nil => rfl
  | cons p rest ih =>
    obtain ⟨i, w⟩ := p
    simp only [tableDrop, List.filter_cons]
    split
    · rename_i h
      simp only [bne_iff_ne, ne_eq] at h
      simpa [tableGet, h, tableDrop] using ih
    · exact ih

theorem tableGet_drop_other (k j : Nat) (t : List (Nat × α)) (h : j ≠ k) : tableGet j (tableDrop k t) = tableGet j t := by
  induction t with
  | nil => rfl
  | cons p rest ih =>
    obtain ⟨i, w⟩ := p
    simp only [tableDrop, List.filter_cons]
    split
    · simp only [tableGet]
      split
      · rfl
      · exact ih
    · rename_i hk
      have hk' : i = k := by simpa using hk
      subst hk'
      simpa [tableGet, Ne.symm h, tableDrop] using ih

theorem tableFrom_mono {lo hi : Nat} (t : List (Nat × α)) (h : lo ≤ hi) (ht : tableFrom hi t = true) :
    tableFrom lo t = true := by
  cases t with
  | nil => rfl
  | cons p rest =>
    simp only [tableFrom, Bool.and_eq_true, decide_eq_true_eq] at *
    exact ⟨by omega, ht.2⟩

theorem tablePut_from (k : Nat) (v : α) (t : List (Nat × α)) (lo : Nat) (h : lo ≤ k) (ht : tableFrom lo t = true) :
    tableFrom lo (tablePut k v t) = true := by
  induction t generalizing lo with
  | nil => simpa [tablePut, tableFrom] using h
  | cons p rest ih =>
    obtain ⟨i, w⟩ := p
    simp only [tableFrom, Bool.and_eq_true, decide_eq_true_eq] at ht
    simp only [tablePut]
    split
    · rename_i hlt
      simp only [tableFrom, Bool.and_eq_true, decide_eq_true_eq]
      exact ⟨h, by omega, ht.2⟩
    · split
      · rename_i hik
        subst hik
        simpa [tableFrom] using ht
      · simp only [tableFrom, Bool.and_eq_true, decide_eq_true_eq]
        exact ⟨ht.1, ih (i + 1) (by omega) ht.2⟩

theorem tableDrop_from (k : Nat) (t : List (Nat × α)) (lo : Nat) (ht : tableFrom lo t = true) :
    tableFrom lo (tableDrop k t) = true := by
  induction t generalizing lo with
  | nil => rfl
  | cons p rest ih =>
    obtain ⟨i, w⟩ := p
    simp only [tableFrom, Bool.and_eq_true, decide_eq_true_eq] at ht
    simp only [tableDrop, List.filter_cons]
    split
    · simp only [tableFrom, Bool.and_eq_true, decide_eq_true_eq]
      exact ⟨ht.1, ih (i + 1) ht.2⟩
    · exact ih lo (tableFrom_mono rest (by omega) ht.2)

/-- A write keeps the canonical form. -/
theorem tablePut_wf (k : Nat) (v : α) (t : List (Nat × α)) (h : tableWf t = true) : tableWf (tablePut k v t) = true :=
  tablePut_from k v t 0 (Nat.zero_le k) h

/-- Emptying a slot keeps the canonical form. -/
theorem tableDrop_wf (k : Nat) (t : List (Nat × α)) (h : tableWf t = true) : tableWf (tableDrop k t) = true :=
  tableDrop_from k t 0 h

/-- The slots of a written table are the written one and those before it. -/
theorem tablePut_slots (k : Nat) (v : α) (t : List (Nat × α)) (p : Nat × α) (h : p ∈ tablePut k v t) : p.1 = k ∨ p ∈ t := by
  induction t with
  | nil =>
    simp only [tablePut, List.mem_singleton] at h
    exact .inl (by rw [h])
  | cons q rest ih =>
    obtain ⟨i, w⟩ := q
    simp only [tablePut] at h
    split at h
    · rcases List.mem_cons.mp h with h | h
      · exact .inl (by rw [h])
      · exact .inr h
    · split at h
      · rcases List.mem_cons.mp h with h | h
        · exact .inl (by rw [h])
        · exact .inr (List.mem_cons_of_mem _ h)
      · rcases List.mem_cons.mp h with h | h
        · exact .inr (by simp [h])
        · rcases ih h with h | h
          · exact .inl h
          · exact .inr (List.mem_cons_of_mem _ h)

end Sys2Proof.Machine
end

