-- ==== Sys2Proof/Tests/Slice0.lean ====
section
/-! SUPPORT. Slice0.lean: own tests. First the ill-formed operands, then values worked out in spec/ (each theorem
names its place), one step at a time; then, for each obligation, a concrete state and operands that meet its
hypotheses, clause by clause, at the ends of their ranges. -/

set_option Elab.async false

namespace Sys2Proof.Tests

open Sys2Proof Sys2Proof.Machine

/-! ### States -/

/-- The state a row leaves (no row stops). -/
def after (i : Instr) (s : State) : State :=
  match exec i s with
  | .next t => t
  | .fault _ => s
  | .refused _ => s

/-- The last reply waiting. -/
def answer (i : Instr) (s : State) : Option Reply := (after i s).port.waiting.getLast?

def seg (length cls a b : Nat) (c : List Nat) (k : Kind) : Segment :=
  { length := length, cls := cls, kind := k, nodeA := a, nodeB := b, conflicts := c }

def none4 : List Nat := [1023, 1023, 1023, 1023]

/-- The map of 01, "Worked example: loading four segments", before its MAP SEAL; segment 20's record but for its
nodes and the tag are the test's. -/
def yard : MapStore :=
  { MapStore.powerOn with
    segments := [(16, seg 3000 2 40 41 none4 .lane), (17, seg 5000 2 41 42 none4 .lane),
      (18, seg 4000 4 42 43 [20, 1023, 1023, 1023] .lane), (19, seg 2500 5 43 44 none4 (.bay 3 0)),
      (20, seg 2000 2 50 51 none4 .cross)],
    windows := [(0, { segment := 18, start := 1000, stop := 2500, ceiling := 100 })],
    tags := [(0, { tagId := 40003, segment := 18, offset := 500 })] }

/-- The same map sealed, with crane 3 listed. -/
def sealedYard : MapStore := { yard with cranes := [3], isSealed := true }

/-- A station in CONFIG with id 11. -/
def cfg : State := { State.reset with ctl := { State.reset.ctl with id := 11, orientation := .along } }

/-- The same with the sealed map. -/
def mapped : State := { cfg with map := sealedYard }

def bay (st : BayState) (g : Nat) : Bay := { state := st, source := .snoop, overrideOpen := false, segment := g }

/-- Crane 3 with bay 0 in a state, never silent, heard at 0. -/
def crane3 (st : BayState) : Crane :=
  { id := 3, heardAt := some 0, silent := false, bays := [bay st 19, bay .shut 1023, bay .shut 1023, bay .shut 1023] }

def own (g : Nat) (st : ClaimState) (i : Nat) (start : Int) : Claim :=
  { seg := g, state := st, tie := .route i, spanStart := start, advertised := 0, waitStart := none }

/-- A station on the road: state, route, stop, index, offset, claims, bay 0 of crane 3 (08, "Worked cases":
laden, GOOD, AHEAD). -/
def road (st : StationState) (route : List Nat) (stop i off : Nat) (claims : List Claim) (b : BayState) : State :=
  { mapped with
    pins := { mapped.pins with wdirHigh := true },
    odo := { mapped.odo with direction := .forward },
    pos := { mapped.pos with index := some i, offset := off, quality := .good },
    route := { entries := route.map (fun g => { seg := g, sign := .plus }), stop := some stop, armed := true },
    claim := { mapped.claim with list := claims },
    bays := { mapped.bays with cranes := [crane3 b] },
    load := .laden,
    ctl := { mapped.ctl with state := st } }

/-- 08, Case 1: 17 and 18 HELD, 19 WANTED, the centre on 17. -/
def case1 (off : Nat) : State :=
  road .run [17, 18, 19] 1200 0 off [own 17 .held 0 0, own 18 .held 1 5000, own 19 .wanted 2 9000] .hoist

/-- 08, Case 2: 18 and 19 HELD, the centre on 18. -/
def case2 (off : Nat) (b : BayState) : State :=
  road .run [18, 19] 1200 0 off [own 18 .held 0 0, own 19 .held 1 4000] b

/-- 08, Case 3: standing in the bay. -/
def case3 (b : BayState) : State := road .run [19] 1200 0 1200 [own 19 .held 0 0] b

/-- A peer on segment g. -/
def peer (id : Nat) (st : PeerStatus) (seq : Nat) (g : Nat) (held wanted : List Nat) : Peer :=
  { id := id, status := st, sequence := seq, heardAt := 0, missed := 0, still := false, laden := false, joining := false,
    prec := 2, segment := g, offset := 0, sign := .plus, speed := 0, held := held, wanted := wanted }

def withPeers (l : List Peer) (s : State) : State := { s with peers := { s.peers with entries := l } }

/-- A notice of a station. -/
def notice (id seq : Nat) (held wanted : List Nat) : PositionNotice :=
  { id := id, sequence := seq, fresh := false, joining := false, still := false, laden := false, prec := 2, segment := 20,
    offset := 0, sign := .plus, speed := 0, held := held, wanted := wanted }

/-- A frame at the front of the receive queue. -/
def queued (n : Notice) (s : State) : State := { s with link := { s.link with queue := [framed n.bytes] } }

def bytesIn (l : List Byte) (s : State) : State := { s with port := { s.port with rx := l } }

def held (s : State) : State := { s with pins := { s.pins with resetHeld := true } }

theorem free_cfg : PortFree cfg := ⟨⟨rfl, rfl, rfl, rfl⟩, rfl⟩
theorem free_mapped : PortFree mapped := ⟨⟨rfl, rfl, rfl, rfl⟩, rfl⟩
theorem free_road (st : StationState) (route : List Nat) (stop i off : Nat) (l : List Claim) (b : BayState) :
    PortFree (road st route stop i off l b) := ⟨⟨rfl, rfl, rfl, rfl⟩, rfl⟩
theorem free_peers (l : List Peer) (s : State) (h : PortFree s) : PortFree (withPeers l s) :=
  ⟨⟨h.running, h.walk, h.restart, h.waiting⟩, h.closed⟩

/-! ### WellFormed: an ill-formed operand for each check, and the largest that fits (R179) -/

theorem test_wf_setStation : (Instr.setStation 128 0).wellFormed = false ∧ (Instr.setStation 0 128).wellFormed = false ∧
    (Instr.setStation 127 127).wellFormed = true := by decide
theorem test_wf_setTuning : (Instr.setTuning 128 0).wellFormed = false ∧ (Instr.setTuning 0 2097152).wellFormed = false ∧
    (Instr.setTuning 127 2097151).wellFormed = true := by decide
theorem test_wf_mapWindow : (Instr.mapWindow 16384 0).wellFormed = false ∧ (Instr.mapWindow 0 16384).wellFormed = false ∧
    (Instr.mapWindow 16383 16383).wellFormed = true := by decide
theorem test_wf_tagWindow : (Instr.tagWindow 16384 0).wellFormed = false ∧ (Instr.tagWindow 0 16384).wellFormed = false := by
  decide
theorem test_wf_mapSegment_head : (Instr.mapSegment 2097152 0 0 0 0 0 0 0 0 0 0).wellFormed = false ∧
    (Instr.mapSegment 0 128 0 0 0 0 0 0 0 0 0).wellFormed = false ∧
    (Instr.mapSegment 0 0 128 0 0 0 0 0 0 0 0).wellFormed = false ∧
    (Instr.mapSegment 0 0 0 16384 0 0 0 0 0 0 0).wellFormed = false ∧
    (Instr.mapSegment 0 0 0 0 16384 0 0 0 0 0 0).wellFormed = false := by decide
theorem test_wf_mapSegment_tail : (Instr.mapSegment 0 0 0 0 0 16384 0 0 0 0 0).wellFormed = false ∧
    (Instr.mapSegment 0 0 0 0 0 0 16384 0 0 0 0).wellFormed = false ∧
    (Instr.mapSegment 0 0 0 0 0 0 0 16384 0 0 0).wellFormed = false ∧
    (Instr.mapSegment 0 0 0 0 0 0 0 0 16384 0 0).wellFormed = false ∧
    (Instr.mapSegment 0 0 0 0 0 0 0 0 0 128 0).wellFormed = false ∧
    (Instr.mapSegment 0 0 0 0 0 0 0 0 0 0 128).wellFormed = false := by decide
theorem test_wf_tagWrite : (Instr.tagWrite 268435456 0 0).wellFormed = false ∧ (Instr.tagWrite 0 16384 0).wellFormed = false ∧
    (Instr.tagWrite 0 0 2097152).wellFormed = false ∧ (Instr.tagWrite 268435455 16383 2097151).wellFormed = true := by decide
theorem test_wf_windowWrite : (Instr.windowWrite 16384 0 0 0).wellFormed = false ∧
    (Instr.windowWrite 0 2097152 0 0).wellFormed = false ∧ (Instr.windowWrite 0 0 2097152 0).wellFormed = false ∧
    (Instr.windowWrite 0 0 0 16384).wellFormed = false := by decide
theorem test_wf_craneList : (Instr.craneList 128 0 0 0 0 0 0 0 0).wellFormed = false ∧
    (Instr.craneList 0 128 0 0 0 0 0 0 0).wellFormed = false ∧ (Instr.craneList 0 0 128 0 0 0 0 0 0).wellFormed = false ∧
    (Instr.craneList 0 0 0 128 0 0 0 0 0).wellFormed = false ∧ (Instr.craneList 0 0 0 0 128 0 0 0 0).wellFormed = false ∧
    (Instr.craneList 0 0 0 0 0 128 0 0 0).wellFormed = false ∧ (Instr.craneList 0 0 0 0 0 0 128 0 0).wellFormed = false ∧
    (Instr.craneList 0 0 0 0 0 0 0 128 0).wellFormed = false ∧ (Instr.craneList 0 0 0 0 0 0 0 0 128).wellFormed = false := by
  decide
theorem test_wf_setPosition : (Instr.setPosition 16384 0 0).wellFormed = false ∧
    (Instr.setPosition 0 2097152 0).wellFormed = false ∧ (Instr.setPosition 0 0 128).wellFormed = false := by decide
theorem test_wf_routeReplace : (Instr.routeReplace 128 [1] 0 0).wellFormed = false ∧
    (Instr.routeReplace 0 [16384] 0 0).wellFormed = false ∧ (Instr.routeReplace 0 [1] 128 0).wellFormed = false ∧
    (Instr.routeReplace 0 [1] 0 2097152).wellFormed = false ∧
    (Instr.routeReplace 0 (List.replicate 128 1) 0 0).wellFormed = false := by decide +kernel
theorem test_wf_routeAppend : (Instr.routeAppend [16384] 0 0).wellFormed = false ∧
    (Instr.routeAppend [1] 128 0).wellFormed = false ∧ (Instr.routeAppend [1] 0 2097152).wellFormed = false ∧
    (Instr.routeAppend (List.replicate 128 1) 0 0).wellFormed = false := by decide +kernel
theorem test_wf_bayControl : (Instr.bayControl 128 0 0 0 0 0).wellFormed = false ∧
    (Instr.bayControl 0 128 0 0 0 0).wellFormed = false ∧ (Instr.bayControl 0 0 128 0 0 0).wellFormed = false ∧
    (Instr.bayControl 0 0 0 128 0 0).wellFormed = false ∧ (Instr.bayControl 0 0 0 0 128 0).wellFormed = false ∧
    (Instr.bayControl 0 0 0 0 0 128).wellFormed = false := by decide
theorem test_wf_small : (Instr.setLoad 128).wellFormed = false ∧ (Instr.setPriority 128).wellFormed = false ∧
    (Instr.stillControl 128 0).wellFormed = false ∧ (Instr.stillControl 0 128).wellFormed = false ∧
    (Instr.clearPeer 16384).wellFormed = false ∧ (Instr.readPeer 128).wellFormed = false ∧
    (Instr.quietTimeReached 256).wellFormed = false ∧ (Instr.peerLost 256).wellFormed = false ∧
    (Instr.craneSilenceExpiry 16).wellFormed = false := by decide

/-! ### No row of the table gives bits (spec/opcode_table.json) -/

theorem test_decode_none : decodeTableWord 8 0x81 = none := by decide
theorem test_fetch_word (s : State) : s.withFetchWord 8 0x81 = s := rfl

/-! ### Values worked out in spec/ -/

/-- 12, "Frame check value": the check of 31h to 39h is 29B1h; with it the frame passes and then fails the form
test. -/
theorem test_frame_check :
    frameCheck [0x31#8, 0x32#8, 0x33#8, 0x34#8, 0x35#8, 0x36#8, 0x37#8, 0x38#8, 0x39#8] = 0x29B1#16 ∧
    framePasses [0x31#8, 0x32#8, 0x33#8, 0x34#8, 0x35#8, 0x36#8, 0x37#8, 0x38#8, 0x39#8, 0x29#8, 0xB1#8] = true ∧
    goodNotice [0x31#8, 0x32#8, 0x33#8, 0x34#8, 0x35#8, 0x36#8, 0x37#8, 0x38#8, 0x39#8, 0x29#8, 0xB1#8] = none := by
  decide +kernel

/-- R177's layout, byte by byte: station 7, sequence 9, JOINING, LADEN, class 2, "-", segment 300, offset 1,000,
speed 258, held 17, wanted 18. -/
theorem test_position_bytes :
    (Notice.position { notice 7 9 [17] [18] with joining := true, laden := true, segment := 300, offset := 1000,
                                                 sign := .minus, speed := 258 }).bytes =
      [0x01#8, 0x07#8, 0x09#8, 0x6A#8, 0x01#8, 0x2C#8, 0x03#8, 0xE8#8, 0x01#8, 0x02#8, 0x11#8, 0x00#8, 0x11#8, 0x00#8,
       0x12#8] := by decide +kernel

/-- R177: crane 3, H O O S is 1 in bits 0-1 and 2 in bits 6-7; a code of 3 fails the form test. -/
theorem test_crane_bytes :
    readNotice [0x03#8, 0x03#8, 0x81#8, 0#8, 0#8] = some (.crane 3 [.hoist, .opened, .opened, .shut]) ∧
    readNotice [0x03#8, 0x03#8, 0x83#8, 0#8, 0#8] = none := by decide +kernel

/-- R177: a held count of 9 fails the form test even where the length agrees. -/
theorem test_form_counts :
    readNotice (List.replicate 1 0x01#8 ++ List.replicate 9 0#8 ++ [0x90#8] ++ List.replicate 20 0#8) = none := by
  decide +kernel

/-- R179: the command bytes of the table. -/
theorem test_command_bytes :
    [0x81#8, 0x8A#8, 0x8B#8, 0x90#8, 0x92#8, 0xA0#8, 0xA7#8, 0xA8#8, 0xC0#8, 0xC8#8, 0xC9#8].map Cmd.ofByte =
      [some .setStation, some .craneList, none, some .start, some .restart, some .setPosition, some .clearPeer, none,
       some .readStatus, some .readEvents, none] := by decide +kernel

/-- R179: 300 in two bytes is 02h, 2Ch; index 43 is signed in 21 bits. -/
theorem test_packing : groups 2 300 = [0x02#8, 0x2C#8] ∧ signed21 2097151 = -1 ∧ signed21 1048575 = 1048575 ∧
    packSigned 3 (-1) = [0x7F#8, 0x7F#8, 0x7F#8] := by decide +kernel

/-- R178: the reading of a tag read, with its check; a wrong check, id 0 and an offset of 101 are disregarded. -/
theorem test_tag_bytes : readTag 0x00#8 0x9C#8 0x43#8 0xCE#8 0x11#8 = some (40003, -50) ∧
    readTag 0x00#8 0x9C#8 0x43#8 0xCE#8 0x12#8 = none ∧ readTag 0#8 0#8 0#8 5#8 5#8 = none ∧
    readTag 0#8 0#8 1#8 101#8 100#8 = none := by decide +kernel

/-- 02, "Worked cases: two races". -/
theorem test_race_speeds : raceSpeed 16 157 837 = 300 ∧ raceSpeed 3 157 1000 = 47 ∧ raceSpeed 16 157 912 = 275 := by decide

/-- 09, "Worked sequence: a ceiling through two periods": the widths. -/
theorem test_widths : [127, 94, 150, 120, 63, 255, 0].map widthOf = [4980, 3686, 5882, 4705, 2470, 10000, 0] := by decide

/-- 08, Case 1: the roots. -/
theorem test_roots : isqrt 1404000 = 1184 ∧ isqrt 88000 = 296 ∧ isqrt 70500 = 265 := by decide +kernel

/-- 08, Case 1, both columns. -/
theorem test_guidance_case1 :
    (case1 2500).guidance = { direction := .ahead, ptl := 5850, rearward := 1850, permit := true, ceiling := 300,
                              cause := .load, code := 127 } ∧
    ((case1 4300).guidance.ptl, (case1 4300).guidance.ceiling, (case1 4300).guidance.code) = (4050, 222, 94) := by
  decide +kernel

/-- 08, Case 2, its three columns: limit, ceiling, code. -/
theorem test_guidance_case2 :
    [case2 3000 .hoist, case2 3300 .hoist, case2 3300 .opened].map
      (fun s => (s.guidance.ptl, s.guidance.ceiling, s.guidance.code)) =
    [(350, 150, 63), (50, 81, 34), (1900, 150, 63)] := by decide +kernel

/-- 08, Case 3: HOIST ahead, OPEN ahead, OPEN back. -/
theorem test_guidance_case3 :
    (case3 .hoist).guidance.rearward = 0 ∧ (case3 .opened).guidance.permit = false ∧
    ({ case3 .opened with odo := { (case3 .opened).odo with direction := .reverse } } : State).guidance =
      { direction := .back, ptl := 0, rearward := 550, permit := true, ceiling := 50, cause := .quality, code := 21 } := by
  decide +kernel

/-- 01, "Worked example: loading four segments", notes: conflict sets and adjacency. -/
theorem test_map_lookups : yard.conflictSet 18 = [18, 20] ∧ yard.conflictSet 20 = [20, 18] ∧
    yard.adjacency 18 19 = .nodeA ∧ yard.adjacency 16 18 = .none := by decide +kernel

/-- The same, steps 9 and 11: the failing check and the sealed map. -/
theorem test_seal_checks : ({ yard with tags := [] } : MapStore).sealFault = some { table := 1, record := 19, reason := 4 } ∧
    sealedYard.sealFault = none := by decide +kernel

/-- R162: the table's indices by name. -/
theorem test_tuning_defaults : (cfg.vmax, cfg.halfLength, cfg.standoff, cfg.creep, cfg.promptGuard, cfg.lostTime) =
    (600, 500, 150, 50, 100, 10000) := by decide +kernel

/-! ### One step of each row -/

/-- R163: the straps are read and the map is empty. -/
theorem test_powerOn : (after (.powerOn 37 true true) (case1 2500)).ctl.id = 37 ∧
    (after (.powerOn 37 true true) (case1 2500)).map = .powerOn := by decide +kernel
/-- R163, R164: the map is kept, the straps are read, the count rises. -/
theorem test_resetLineRelease : (after (.resetLineRelease 5 false) (held mapped)).map.segments = yard.segments ∧
    (after (.resetLineRelease 5 false) (held mapped)).ctl.resetCount = 1 := by decide +kernel
theorem test_resetLineAssert : (after .resetLineAssert cfg).pins.resetHeld = true := by decide +kernel
theorem test_hostByteArrival : (after (.hostByteArrival 0x90#8) cfg).port.rx = [0x90#8] := by decide +kernel
/-- 11, "Worked sequence: a break and an overrun": SET LOAD opens. -/
theorem test_commandByteTaken : (after .commandByteTaken (bytesIn [0xA3#8] (case1 0))).port.openCmd =
    some { cmd := .setLoad, values := [], acc := 0, got := 0 } := by decide +kernel
/-- The same: a parameter byte without a command is stray. -/
theorem test_parameterByteTaken : (after .parameterByteTaken (bytesIn [1#8] (case1 0))).port.stray = true := by decide +kernel
/-- R180: bit 7 set, the status in bits 0 to 3. -/
theorem test_replyPlace :
    (after .replyPlace (after (.setStation 63 0) cfg)).port.placed = [[0x85#8]] := by decide +kernel
theorem test_replySent : (after .replySent (after (.setStation 5 0) cfg)).port.placed = [] := by decide +kernel
theorem test_unknownCommand : (answer .unknownCommand cfg).map (·.status) = some .unknownCommand := by decide +kernel
/-- R161: 62 is the last station id, 1 is AGAINST. -/
theorem test_setStation : (after (.setStation 62 1) cfg).ctl.id = 62 ∧
    (answer (.setStation 63 0) cfg).map (·.status) = some .refusedValue := by decide +kernel
/-- R162: a class ceiling above Vmax is clamped to it. -/
theorem test_setTuning : (after (.setTuning 32 601) cfg).ctl.tuning[32]? = some 600 := by decide +kernel
theorem test_mapWindow : (after (.mapWindow 16 19) cfg).map.segCursor = { first := 16, last := 19, counter := 16, disregard := 0 } := by
  decide +kernel
/-- 01, the loading example, step 2: slot 16 is present, the counter on 17. -/
theorem test_mapSegment :
    (after (.mapSegment 3000 2 0 40 41 1023 1023 1023 1023 0 0) (after (.mapWindow 16 19) cfg)).map.segments =
      [(16, seg 3000 2 40 41 none4 .lane)] := by decide +kernel
theorem test_mapSeal : (after .mapSeal { cfg with map := yard }).map.sealing = true := by decide +kernel
theorem test_mapSealWalkEnd :
    (after .mapSealWalkEnd { cfg with map := { sealedYard with isSealed := false, sealing := true } }).map = sealedYard := by
  decide +kernel
theorem test_mapClear : (after .mapClear mapped).map = .powerOn := by decide +kernel
theorem test_tagWindow : (answer (.tagWindow 0 512) cfg).map (·.status) = some .refusedValue := by decide +kernel
theorem test_tagWrite : (after (.tagWrite 40003 18 500) cfg).map.tags = yard.tags := by decide +kernel
/-- 01, the loading example, step 8. -/
theorem test_windowWrite : (after (.windowWrite 18 1000 2500 100) cfg).map.windows = yard.windows := by decide +kernel
theorem test_craneList : (after (.craneList 1 3 0 0 0 0 0 0 0) cfg).map.cranes = [3] ∧
    (answer (.craneList 2 3 3 0 0 0 0 0 0) cfg).map (·.status) = some .refusedValue := by decide +kernel
theorem test_start : (after .start mapped).ctl.state = .joining ∧
    answer .start cfg = some { status := .refusedValue, data := [1#8] } := by decide +kernel
theorem test_leave : (answer .leave (case1 2500)).map (·.status) = some .notParked := by decide +kernel
theorem test_restart : (after .replySent (after .restart mapped)).ctl.cause = .command := by decide +kernel
/-- R39: a "-" crossing measures the offset from the other end. -/
theorem test_setPosition : (after (.setPosition 17 1000 1) (case1 0)).pos.offset = 4000 ∧
    (after (.setPosition 17 1000 1) (case1 0)).pos.quality = .doubtful := by decide +kernel
theorem test_routeReplace : (after (.routeReplace 0 [17, 18] 0 0) (case1 2500)).route.entries.map (·.seg) = [17, 18] ∧
    (answer (.routeReplace 0 [18] 0 0) (case1 2500)).map (·.status) = some .notHere := by decide +kernel
theorem test_routeAppend : (answer (.routeAppend [18] 0 0) (case1 2500)).map (·.status) = some .doneCut := by decide +kernel
theorem test_routeClear : (after .routeClear (case1 2500)).route.entries.map (·.seg) = [17] := by decide +kernel
theorem test_setLoad : (after (.setLoad 0) (case1 2500)).guide.ceiling = 400 := by decide +kernel
theorem test_setPriority : (after (.setPriority 4) (case1 2500)).claim.prec = 3 := by decide +kernel
/-- 07, "Worked sequence: a bay through hoist, silence and override", at 12,500: O S S S. -/
theorem test_bayControl : (after (.bayControl 0 3 1 2 2 2) (case1 2500)).bays.entries.map (·.state) =
    [.opened, .shut, .shut, .shut] := by decide +kernel
theorem test_stillControl : (after (.stillControl 1 0) (case1 2500)).pos.motion = .still := by decide +kernel
theorem test_clearPeer : (after (.clearPeer 27) (withPeers [peer 27 .lost 0 20 [20] []] (case1 2500))).peers.entries = [] := by
  decide +kernel
/-- R180: CONFIG, id 11, ALONG, sealed, NONE, MOVING, no suspension, POWER, count 0. -/
theorem test_readStatus : answer .readStatus mapped =
    some { status := .done, data := [0#8, 11#8, 0#8, 1#8, 0#8, 0#8, 0#8, 0#8, 0#8, 0#8] } := by decide +kernel
theorem test_readGuidance : (answer .readGuidance cfg).map (fun r => r.data.length) = some 14 := by decide +kernel
theorem test_readPosition : (answer .readPosition (case1 300)).map (fun r => r.data.take 4) = some [0#8, 0#8, 2#8, 44#8] := by
  decide +kernel
theorem test_readRoute : (answer .readRoute (case1 0)).map (fun r => r.data.take 4) = some [3#8, 0#8, 17#8, 0#8] := by
  decide +kernel
theorem test_readClaims : (answer .readClaims (case1 0)).map (fun r => r.data.take 5) = some [3#8, 0#8, 17#8, 1#8, 0#8] := by
  decide +kernel
theorem test_readPeer : answer (.readPeer 0) cfg = some { status := .refusedValue, data := [0#8, 0#8] } := by decide +kernel
theorem test_readBays : (answer .readBays (case1 0)).map (fun r => r.data.take 5) = some [1#8, 4#8, 3#8, 0#8, 1#8] := by
  decide +kernel
theorem test_readCounters : (answer .readCounters cfg).map (fun r => r.data.length) = some 36 := by decide +kernel
theorem test_readCountersClear :
    (after .readCountersClear { cfg with link := { cfg.link with framesIn := 7 } }).link.framesIn = 0 := by decide +kernel
/-- R173: bit 12 is PERMIT_DROP. -/
theorem test_readEvents : answer .readEvents (cfg.raise .permitDrop) = some { status := .done, data := [32#8, 0#8, 0#8] } := by
  decide +kernel
theorem test_wheelPulse : (after .wheelPulse cfg).odo.uncredited = 1 := by decide +kernel
/-- 02, "Worked sequence: standing at a bay", race 1: 4 pulses with residue 30 at 1,240. -/
theorem test_raceEnd :
    let s := case3 .opened
    let t := after .raceEnd { s with pos := { s.pos with offset := 1240 },
                                     odo := { s.odo with residue := 30, racePulses := 4, uncredited := 4 } }
    (t.pos.offset, t.odo.residue, t.pos.stillCount, t.clock) = (1246, 58, 0, 100000) := by decide +kernel
/-- R153: a level that stands is taken at 1,000 us. -/
theorem test_directionRows : (after .directionLevelChange cfg).odo.directionDue = some 1000 ∧
    (after .directionChange (after .directionLevelChange cfg)).odo.direction = .forward := by decide +kernel
/-- R153: a level that returns at 999 us makes no change; one that returns at 1,000 us has made it, and starts anew. -/
theorem test_directionReturns :
    let back (t : Nat) := (after .directionLevelChange { after .directionLevelChange cfg with clock := t }).odo
    ((back 999).direction, (back 999).directionDue) = (.reverse, none) ∧
    ((back 1000).direction, (back 1000).directionDue) = (.forward, some 2000) := by decide +kernel
/-- R47, R50: an APPEND broken before its first id is refused on an empty queue. -/
theorem test_appendBroken :
    [Cmd.route.run [1] cfg, Cmd.route.run [1, 3] cfg, Cmd.route.run [1, 3] (case1 0), Cmd.route.run [0] cfg].map
      (fun r => r.2.map (·.status)) = [some .notHere, some .notHere, some .partialDone, some .partialDone] := by decide +kernel
/-- 02, "Worked sequence: a slipping wheel", first read: an error of +650 is rejected. -/
theorem test_tagRead :
    let t := after (.tagRead 0x00#8 0x9C#8 0x43#8 0xCE#8 0x11#8) (after (.readerLeadByte 0xA5#8)
      (road .run [16, 17, 18, 19] 1200 1 4800 [own 17 .held 1 3000, own 18 .held 2 8000] .hoist))
    (t.pos.rejects, t.pos.lastError, t.pos.quality) = (1, some 650, .good) := by decide +kernel
/-- R178: A5h opens a read, and inside it is data. -/
theorem test_readerLeadByte : (after (.readerLeadByte 0xA5#8) cfg).pins.reader = some { bytes := [], gapEnd := 5000 } ∧
    (after (.readerLeadByte 0xA5#8) (after (.readerLeadByte 0xA5#8) cfg)).pins.reader =
      some { bytes := [0xA5#8], gapEnd := 5000 } := by decide +kernel
/-- R178: with no read open the line hunts through the five bytes, and no read is taken. -/
theorem test_tagRead_hunting : after (.tagRead 0x00#8 0x9C#8 0x43#8 0xCE#8 0x11#8) (case1 0) = case1 0 := by decide +kernel
/-- R163: a power-on under a held input and the release are one reset. -/
theorem test_powerOn_held :
    let t := after (.resetLineRelease 5 true) (after (.powerOn 37 false true) (held mapped))
    (t.ctl.id, t.ctl.cause, t.ctl.resetCount, t.map.segments, t.pins.powerOnHeld) = (5, .power, 0, [], false) := by
  decide +kernel
/-- R10: a TAG WRITE broken with no parameter, past the window, is disregarded as in R9. -/
theorem test_tagWrite_broken :
    let s := { cfg with map := { cfg.map with tagCursor := { cfg.map.tagCursor with counter := 512, disregard := 3 } } }
    (Cmd.tagWrite.run [] s).1.map.tagCursor.disregard = 4 := by decide +kernel
/-- R37: a still count limit at the still count turns the motion STILL at once. -/
theorem test_setTuning_motion :
    (after (.setTuning 9 2) { cfg with pos := { cfg.pos with stillCount := 2 } }).pos.motion = .still := by decide +kernel
/-- R99: the releases of one event go in route order. -/
theorem test_releaseOrder : releaseOrder [own 19 .held 2 9000, own 18 .held 1 5000, own 17 .held 0 0] = [17, 18, 19] := by
  decide +kernel
/-- R153: a gap of 5,000 us is not yet more than 5 ms. -/
theorem test_readGapTimeout : (after .readGapTimeout (after (.readerLeadByte 0xA5#8) cfg)).clock = 5001 := by decide +kernel
/-- 09, the worked sequence, at 10,000: a pending 150 comes into force. -/
theorem test_periodStart :
    (after .periodStart { cfg with line := { cfg.line with code := 94, pendingCode := 150 } }).line =
      { permit := false, code := 150, pendingCode := 150, periodStart := 10000, high := true } := by decide +kernel
/-- The same, at 3,686. -/
theorem test_widthReached : (after .widthReached { cfg with line := { cfg.line with code := 94, high := true } }).clock = 3686 := by
  decide +kernel
theorem test_modemFrameArrival :
    (after (.modemFrameArrival (framed (Notice.leave 27 4).bytes)) (case1 0)).link.queue.length = 1 := by decide +kernel
theorem test_startOfSend : (after .startOfSend (case1 2500).buildPosition).claim.list.map (·.advertised) = [0, 0, 1] := by
  decide +kernel
/-- 06, "Worked sequence: taking a segment against a near conflict", at 600: 27 holds 20, the pair (27, 18). -/
theorem test_frameParse :
    (after .frameParse (queued (.position (notice 27 5 [20] [])) (withPeers [peer 27 .fresh 4 20 [] [20]] (case1 2500)))).claim.doubles =
      [(27, 18)] := by decide +kernel
theorem test_cadenceExpiry :
    (after .cadenceExpiry { case1 0 with sched := { (case1 0).sched with cadence := some 250000 } }).sched.slotIndex = 1 := by
  decide +kernel
theorem test_promptGuardExpiry :
    (after .promptGuardExpiry { case1 0 with sched := { (case1 0).sched with guard := some 9 } }).sched.guard = none := by
  decide +kernel
theorem test_coincidenceWindowClose :
    (after .coincidenceWindowClose
      { case1 0 with sched := { (case1 0).sched with window := some { closes := 9, coincident := true } } }).sched.nearCount = 1 := by
  decide +kernel
theorem test_quietTimeReached :
    (after (.quietTimeReached 27) (withPeers [peer 27 .fresh 4 20 [] []] (case1 0))).peers.entries.map (·.status) = [.quiet] := by
  decide +kernel
theorem test_peerLost : (after (.peerLost 27) (withPeers [peer 27 .quiet 4 20 [] []] (case1 0))).flag .peerLost = true := by
  decide +kernel
theorem test_saturationTimerExpiry :
    (after .saturationTimerExpiry { case1 0 with peers := { (case1 0).peers with saturation := some 7 } }).peers.saturation = none := by
  decide +kernel
theorem test_clashTimerExpiry :
    (after .clashTimerExpiry { case1 0 with claim := { (case1 0).claim with clash := some 7 } }).claim.clash = none := by
  decide +kernel
/-- R113: the wait limit of 30 s from the wait start. -/
theorem test_waitExpired :
    (after .waitExpired { case1 0 with claim := { (case1 0).claim with
      list := [{ own 19 .wanted 2 9000 with waitStart := some 5 }] } }).clock = 30000005 := by decide +kernel
/-- 07, the worked sequence, at 11,900: U U U U. -/
theorem test_craneSilenceExpiry : (after (.craneSilenceExpiry 3) (case1 2500)).bays.entries.map (·.state) =
    [.unknown, .unknown, .unknown, .unknown] := by decide +kernel
theorem test_joinListenExpiry :
    let s := road .joining [17] 0 0 2500 [own 17 .held 0 0] .hoist
    (after .joinListenExpiry { s with ctl := { s.ctl with joinTimer := some 3000000 } }).ctl.state = .run := by decide +kernel

/-! ### Witnesses: a state and operands that meet each obligation's hypotheses, clause by clause -/

def waitingFor (r : Reply) (placed : List (List Byte)) (s : State) : State :=
  { s with port := { s.port with waiting := [r], placed := placed } }

def openedWith (o : OpenCommand) (rx : List Byte) (s : State) : State := { s with port := { s.port with openCmd := some o, rx := rx } }

def atSeg (n d : Nat) (s : State) : State :=
  { s with map := { s.map with segCursor := { s.map.segCursor with counter := n, disregard := d } } }

def atTag (n : Nat) (s : State) : State := { s with map := { s.map with tagCursor := { s.map.tagCursor with counter := n } } }

def atWin (n : Nat) (s : State) : State := { s with map := { s.map with winCursor := { s.map.winCursor with counter := n } } }

theorem free_atSeg (n d : Nat) : PortFree (atSeg n d cfg) := ⟨⟨rfl, rfl, rfl, rfl⟩, rfl⟩
theorem free_atTag (n : Nat) : PortFree (atTag n cfg) := ⟨⟨rfl, rfl, rfl, rfl⟩, rfl⟩
theorem free_atWin (n : Nat) : PortFree (atWin n cfg) := ⟨⟨rfl, rfl, rfl, rfl⟩, rfl⟩
theorem takes_bytes (l : List Byte) : PortTakes (bytesIn l cfg) := ⟨rfl, rfl, rfl, rfl⟩
theorem takes_opened (o : OpenCommand) (l : List Byte) : PortTakes (openedWith o l cfg) := ⟨rfl, rfl, rfl, rfl⟩

theorem wit_StepTakesFront : ({ cfg with pending := [.wheelPulse, .start] } : State).pending = .wheelPulse :: [.start] ∧
    (cfg.pending = [] ∧ cfg.pins.resetHeld = false) ∧ ((held cfg).pending = [] ∧ (held cfg).pins.resetHeld = true) := by decide

theorem wit_ExecKeepsQueue : exec .wheelPulse cfg = .next (after .wheelPulse cfg) := rfl

theorem wit_HeldInReset : (held cfg).pins.resetHeld = true ∧ (∀ a b d, Instr.wheelPulse ≠ .powerOn a b d) ∧
    Instr.wheelPulse ≠ .resetLineAssert ∧ (∀ a b, Instr.wheelPulse ≠ .resetLineRelease a b) ∧
    Instr.wheelPulse ≠ .directionLevelChange :=
  ⟨rfl, fun _ _ _ => nofun, nofun, fun _ _ => nofun, nofun⟩

/-- Not held, held with no power-on waiting, held with one. -/
theorem wit_ResetRows : cfg.pins.resetHeld = false ∧ (held cfg).pins.resetHeld = true ∧ (held cfg).pins.powerOnHeld = false ∧
    (after (.powerOn 0 true false) (held cfg)).pins.powerOnHeld = true := by decide +kernel

theorem wit_RestartAndItsReset : PortFree cfg ∧ (after .restart cfg).port.restarting = true ∧
    commandOf (.setLoad 1) = some (.setLoad, [1]) ∧
    (let s := after .replyPlace (after .restart cfg)
     s.pins.resetHeld = false ∧ s.port.restarting = true ∧ s.port.waiting = [] ∧ s.port.placed = [[0x80#8]]) :=
  ⟨free_cfg, by decide +kernel, rfl, by decide +kernel⟩

/-- 63 bytes and 64; a reply that fills the buffer to 512. -/
theorem wit_HostByteArrives : cfg.pins.resetHeld = false ∧ (bytesIn (List.replicate 63 0#8) cfg).port.rx.length < 64 ∧
    64 ≤ (bytesIn (List.replicate 64 0#8) cfg).port.rx.length ∧
    (let s := waitingFor (Reply.plain .done) [List.replicate 511 0#8] cfg
     s.port.waiting = [Reply.plain .done] ∧ (s.port.placed.map List.length).sum + (Reply.plain .done).data.length + 1 ≤ 512) := by
  decide +kernel

def loadOpen : OpenCommand := { cmd := .setLoad, values := [], acc := 0, got := 0 }

theorem wit_CommandBytes : (PortFree cfg ∧ cfg.port.rx = []) ∧ PortTakes (bytesIn [0x92#8] cfg) ∧
    (bytesIn [0x92#8] cfg).port.openCmd = none ∧ (Cmd.ofByte 0x92#8 = some .restart ∧ Cmd.restart.nextWidth [] = none) ∧
    (Cmd.ofByte 0xA3#8 = some .setLoad ∧ Cmd.setLoad.nextWidth [] = some 1) ∧
    (Cmd.ofByte 0xFF#8 = none ∧ (0xFF#8).msb = true) ∧ (Cmd.ofByte 0x80#8 = none ∧ (0x80#8).msb = true) ∧
    PortTakes (openedWith loadOpen [0xFF#8] cfg) ∧ (openedWith loadOpen [0xFF#8] cfg).port.openCmd = some loadOpen ∧
    (Cmd.ofByte 0xC8#8 = some .readEvents ∧ Cmd.readEvents.nextWidth [] = none) :=
  ⟨⟨free_cfg, rfl⟩, takes_bytes _, rfl, by decide, by decide, by decide, by decide, takes_opened _ _, rfl, by decide⟩

/-- R179: the bytes beside the groups of the table name none; ROUTE's parameters for two ids and for none, in both modes. -/
theorem wit_CommandBytes_table :
    [0x00#8, 0x80#8, 0x8B#8, 0x8F#8, 0x93#8, 0xA8#8, 0xC9#8, 0xFF#8].map Cmd.ofByte = List.replicate 8 none ∧
    [0x81#8, 0x8A#8, 0x92#8, 0xA1#8, 0xC8#8].map Cmd.ofByte =
      [some .setStation, some .craneList, some .restart, some .route, some .readEvents] ∧
    [[], [0], [0, 1], [0, 1, 2], [0, 1, 2, 17], [0, 1, 2, 17, 18], [0, 1, 2, 17, 18, 1], [0, 1, 2, 17, 18, 1, 9], [0, 1, 0], [1],
     [1, 0], [1, 1]].map Cmd.route.nextWidth =
      [some 1, some 1, some 1, some 2, some 2, some 1, some 3, none, some 1, some 1, some 1, some 2] := by decide +kernel

/-- The first of two bytes, the last of a first parameter of two, the last of all. -/
theorem wit_ParameterBytes : PortTakes (bytesIn [0x7F#8] cfg) ∧ (bytesIn [0x7F#8] cfg).port.openCmd = none ∧
    (0x7F#8).msb = false ∧
    (Cmd.mapWindow.nextWidth [] = some 2 ∧ 0 + 1 < 2) ∧
    (2 ≤ 1 + 1 ∧ Cmd.mapWindow.nextWidth ([] ++ [128 * 7 + (0x7F#8).toNat]) = some 2) ∧
    (2 ≤ 1 + 1 ∧ Cmd.mapWindow.nextWidth ([1] ++ [128 * 7 + (0x7F#8).toNat]) = none) :=
  ⟨takes_bytes _, rfl, by decide, by decide, by decide, by decide⟩

/-- No reply waiting, one that just fits, one that just does not, an empty buffer, one reply to send. -/
theorem wit_RepliesPlacedAndSent : cfg.pins.resetHeld = false ∧ cfg.port.waiting = [] ∧ cfg.port.placed = [] ∧
    (511 + (Reply.plain .done).data.length + 1 ≤ 512) ∧ (512 < 512 + (Reply.plain .done).data.length + 1) ∧
    (let s := after .replyPlace (after (.setStation 5 0) cfg)
     s.port.waiting = [] ∧ s.port.placed = [0x80#8] :: [] ∧ s.port.restarting = false) := by decide +kernel

/-- A waiting reply that just fits 512 bytes, and one that does not, behind a placed one. -/
theorem wit_RepliesPlacedAndSent_waiting :
    let full (n : Nat) : State := { cfg with port := { cfg.port with
      waiting := [Reply.plain .done], placed := [List.replicate n 0#8] } }
    ((full 511).port.placed.map List.length).sum + (Reply.plain .done).data.length + 1 ≤ 512 ∧
    (after .replySent (full 511)).port.placed = [[0x80#8]] ∧
    512 < ((full 512).port.placed.map List.length).sum + (Reply.plain .done).data.length + 1 ∧
    (after .replySent (full 512)).port.placed = [] := by decide +kernel

/-- A reply that waits for room, with a byte to take and a command given directly. -/
theorem wit_RepliesPlacedAndSent_noRoom :
    let s : State := { bytesIn [0x92#8] cfg with port := { (bytesIn [0x92#8] cfg).port with
      waiting := [Reply.plain .done], placed := [List.replicate 512 0#8] } }
    512 < (s.port.placed.map List.length).sum + (Reply.plain .done).data.length + 1 ∧
    commandOf .mapClear = some (.mapClear, []) ∧ after .commandByteTaken s = s ∧ after .mapClear s = s ∧
    after .commandByteTaken (bytesIn [0x92#8] cfg) ≠ bytesIn [0x92#8] cfg := by decide +kernel

theorem wit_CommandsByState : PortFree cfg ∧ commandOf .mapClear = some (.mapClear, []) ∧
    Cmd.mapClear.takenIn cfg.ctl.state = true ∧ commandOf .leave = some (.leave, []) ∧ Cmd.leave.takenIn cfg.ctl.state = false :=
  ⟨free_cfg, rfl, by decide, rfl, by decide⟩

/-- Each clause at the ends of its ranges: what a broken command leaves and answers. -/
theorem wit_BrokenCommands : (Cmd.setStation.nextWidth [] = some 1 ∧ Cmd.setStation ≠ .tagWrite ∧ Cmd.setStation ≠ .windowWrite) ∧
    [Cmd.setStation.run [62] cfg, Cmd.setStation.run [63] cfg, Cmd.setTuning.run [46] cfg, Cmd.setTuning.run [47] cfg,
     Cmd.mapWindow.run [1022] cfg, Cmd.mapWindow.run [1023] cfg, Cmd.tagWindow.run [511] cfg, Cmd.tagWindow.run [512] cfg,
     Cmd.mapSegment.run [1, 2, 3, 4, 5, 6, 7, 8, 9, 10] cfg].map (fun r => r.2.map (·.status)) =
    [some .partialDone, some .refusedValue, some .partialDone, some .partialDone, some .partialDone, some .refusedValue,
     some .partialDone, some .refusedValue, some .partialDone] ∧
    cfg.ctl.tuning[46]? = some 8191 ∧ cfg.ctl.tuning[47]? = none := by decide +kernel

theorem wit_BrokenCommands_writes :
    (atTag 512 cfg).map.tagCursor.last < (atTag 512 cfg).map.tagCursor.counter ∧
    (atWin 16 cfg).map.winCursor.last < (atWin 16 cfg).map.winCursor.counter ∧
    [Cmd.tagWrite.run [16777215] (atTag 511 cfg), Cmd.tagWrite.run [16777216] (atTag 511 cfg),
     Cmd.tagWrite.run [1, 1024] (atTag 511 cfg), Cmd.windowWrite.run [1023, 65535, 65535] (atWin 15 cfg),
     Cmd.windowWrite.run [1024] (atWin 15 cfg), Cmd.craneList.run [2, 3, 4] cfg, Cmd.craneList.run [9, 3] cfg,
     Cmd.craneList.run [1, 3] mapped].map (fun r => r.2.map (·.status)) =
    [some .partialDone, some .refusedValue, some .refusedValue, some .partialDone, some .refusedValue, some .partialDone,
     some .partialDone, some .partialDone] ∧
    (Cmd.craneList.run [2, 3, 4] cfg).1.map.cranes = [3, 4] ∧ (Cmd.craneList.run [9, 3] cfg).1.map.cranes = [] := by
  decide +kernel

theorem wit_BrokenCommands_road :
    [Cmd.setPosition.run [18, 1] (case1 0), Cmd.setPosition.run [21] (case1 0), Cmd.route.run [0, 1, 2] (case1 0),
     Cmd.route.run [0, 0, 2, 17] (case1 0), Cmd.route.run [0, 0, 1, 17, 1] (case1 0), Cmd.route.run [0, 0, 2, 18] (case1 0),
     Cmd.stillControl.run [1] (case1 0), Cmd.stillControl.run [2] (case1 0), Cmd.bayControl.run [0] (case1 0),
     Cmd.bayControl.run [0, 3, 1, 1, 1] (case1 0), Cmd.bayControl.run [0, 4] (case1 0)].map (fun r => r.2.map (·.status)) =
    [some .partialDone, some .refusedValue, some .partialDone, some .partialDone, some .partialDone, some .notHere,
     some .partialDone, some .refusedValue, some .partialDone, some .partialDone, some .refusedValue] ∧
    (Cmd.bayControl.run [0, 3, 1, 1, 1] (case1 0)).1.bays.entries.map (·.state) = [.opened, .opened, .opened, .shut] := by
  decide +kernel

theorem wit_ParameterPacking : 16383 < 128 ^ 2 ∧ loadOpen.acc = 0 ∧ loadOpen.got = 0 := by decide

/-- Ids 1 and 62 with both orientations; 0, 63 and orientation 2. -/
theorem wit_SetStation : PortFree cfg ∧ cfg.ctl.state = .config ∧ (after (.setStation 1 0) cfg).ctl.id = 1 ∧
    (after (.setStation 62 1) cfg).ctl.orientation = .against ∧
    [Instr.setStation 0 0, .setStation 63 0, .setStation 1 2].map (fun i => (answer i cfg).map (·.status)) =
      List.replicate 3 (some .refusedValue) := ⟨free_cfg, rfl, by decide +kernel, by decide +kernel, by decide +kernel⟩

/-- The last index and the one after it; Vmax lowered to its least, and the class ceilings with it. -/
theorem wit_SetTuning : PortFree cfg ∧ cfg.ctl.state = .config ∧ cfg.ctl.tuning.length = 47 ∧ Config.tuningTable[47]? = none ∧
    Config.tuningTable[46]? = some ⟨0, 8191, 8191⟩ ∧ Config.tuningTable[30]? = some ⟨100, 1000, 600⟩ ∧
    (after (.setTuning 30 0) cfg).ctl.tuning[30]? = some 100 ∧ (after (.setTuning 30 0) cfg).ctl.tuning[32]? = some 100 ∧
    (after (.setTuning 43 2097151) cfg).ctl.tuning[43]? = some (-1) ∧
    (after (.setTuning 9 15) cfg).pos.motion = cfg.pos.motion :=
  ⟨free_cfg, rfl, by decide, by decide, by decide, by decide, by decide +kernel, by decide +kernel, by decide +kernel,
   by decide +kernel⟩

theorem wit_MapWindows : PortFree cfg ∧ cfg.ctl.state = .config ∧ (1022 ≤ 1022 ∧ (0 : Nat) ≤ 1022) ∧
    [Instr.mapWindow 1022 1022, .mapWindow 0 1023, .mapWindow 1 0, .tagWindow 511 511, .tagWindow 512 512].map
      (fun i => (answer i cfg).map (·.status)) =
    [some .done, some .refusedValue, some .refusedValue, some .done, some .refusedValue] :=
  ⟨free_cfg, rfl, by decide, by decide +kernel⟩

/-- The last slot, past it with the disregard count at its end, each limit's end, a bay's crane and index. -/
theorem wit_MapSegmentWrite : PortFree (atSeg 1022 0 cfg) ∧ (atSeg 1022 0 cfg).ctl.state = .config ∧
    (atSeg 1023 65535 cfg).map.segCursor.last < (atSeg 1023 65535 cfg).map.segCursor.counter ∧
    (after (.mapSegment 1 0 0 0 0 0 0 0 0 0 0) (atSeg 1023 65535 cfg)).map.segCursor.disregard = 65535 ∧
    [Instr.mapSegment 65535 7 3 1023 1023 1023 1023 1023 1023 0 0, .mapSegment 0 7 2 0 0 0 0 0 0 15 3,
     .mapSegment 65536 0 0 0 0 0 0 0 0 0 0, .mapSegment 1 8 0 0 0 0 0 0 0 0 0, .mapSegment 1 0 4 0 0 0 0 0 0 0 0,
     .mapSegment 1 0 2 0 0 0 0 0 0 0 0, .mapSegment 1 0 2 0 0 0 0 0 0 1 4].map
      (fun i => (answer i (atSeg 1022 0 cfg)).map (·.status)) =
    [some .done, some .done, some .refusedValue, some .refusedValue, some .refusedValue, some .refusedValue,
     some .refusedValue] := ⟨free_atSeg _ _, rfl, by decide, by decide +kernel, by decide +kernel⟩

theorem wit_TagAndWindowWrites : PortFree (atTag 511 cfg) ∧ PortFree (atWin 15 cfg) ∧ (atTag 511 cfg).ctl.state = .config ∧
    (atTag 512 cfg).map.tagCursor.last < (atTag 512 cfg).map.tagCursor.counter ∧
    (atWin 16 cfg).map.winCursor.last < (atWin 16 cfg).map.winCursor.counter ∧
    [Instr.tagWrite 16777215 1023 65535, .tagWrite 0 0 0, .tagWrite 16777216 0 0].map
      (fun i => (answer i (atTag 511 cfg)).map (·.status)) = [some .done, some .done, some .refusedValue] ∧
    [Instr.windowWrite 1023 65535 65535 1000, .windowWrite 0 0 0 1001].map
      (fun i => (answer i (atWin 15 cfg)).map (·.status)) = [some .done, some .refusedValue] :=
  ⟨free_atTag _, free_atWin _, rfl, by decide, by decide, by decide +kernel, by decide +kernel⟩

/-- Eight ids and none; the same list; nine, an id 16 and an id twice. -/
theorem wit_CraneListWrite : PortFree mapped ∧ mapped.ctl.state = .config ∧
    (after (.craneList 8 1 2 3 4 5 6 7 15) mapped).map.cranes = [1, 2, 3, 4, 5, 6, 7, 15] ∧
    (after (.craneList 0 0 0 0 0 0 0 0 0) mapped).map.cranes = [] ∧
    (after (.craneList 1 3 0 0 0 0 0 0 0) mapped).map.isSealed = true ∧
    [Instr.craneList 9 1 2 3 4 5 6 7 8, .craneList 1 16 0 0 0 0 0 0 0, .craneList 2 4 4 0 0 0 0 0 0].map
      (fun i => (answer i mapped).map (·.status)) = List.replicate 3 (some .refusedValue) :=
  ⟨free_mapped, rfl, by decide +kernel, by decide +kernel, by decide +kernel, by decide +kernel⟩

def walking (m : MapStore) : State := { cfg with map := { m with isSealed := false, sealing := true } }

theorem wit_MapSealing : (PortFree mapped ∧ mapped.ctl.state = .config ∧ mapped.map.isSealed = true) ∧
    (PortFree cfg ∧ cfg.map.isSealed = false) ∧ ((walking yard).map.sealing = true ∧ commandOf .start = some (.start, [])) ∧
    (cfg.pins.resetHeld = false ∧ cfg.map.sealing = false) ∧ (walking yard).pins.resetHeld = false ∧
    (walking yard).map.sealFault = some { table := 1, record := 19, reason := 4 } ∧
    (walking sealedYard).map.sealFault = none :=
  ⟨⟨free_mapped, rfl, rfl⟩, ⟨free_cfg, rfl⟩, ⟨rfl, rfl⟩, ⟨rfl, rfl⟩, rfl, by decide +kernel, by decide +kernel⟩

theorem wit_SealChecks : sealedYard.sealFault = none ∧ MapStore.powerOn.segments = [] := by decide +kernel

/-- The sealed yard with a segment 21 of that length, nodes, conflict and kind after its own. -/
def withSegment (length b conflict : Nat) (k : Kind) : MapStore :=
  { sealedYard with segments := sealedYard.segments ++ [(21, seg length 0 60 b [conflict, 1023, 1023, 1023] k)] }

/-- The segments' checks at the ends of their ranges; the records before 21 pass, since the yard without it does. -/
theorem wit_SealChecks_segments :
    [withSegment 500 61 18 .lane, withSegment 20000 61 1023 (.bay 3 1)].map (·.sealFault) = [none, none] ∧
    [withSegment 499 61 1023 .lane, withSegment 20001 61 1023 .lane, withSegment 500 60 1023 .lane, withSegment 500 61 22 .lane,
     withSegment 500 61 1023 (.bay 4 0), withSegment 500 61 1023 (.bay 3 0), withSegment 499 60 22 (.bay 4 0)].map (·.sealFault) =
    [1, 1, 2, 3, 4, 5, 1].map (fun r => some { table := 1, record := 21, reason := r }) := by decide +kernel

/-- The windows' and tags' checks at the ends of theirs, over segments (and windows) that pass. -/
theorem wit_SealChecks_windows_tags :
    (let window (g a b : Nat) : MapStore :=
       { sealedYard with windows := sealedYard.windows ++ [(1, { segment := g, start := a, stop := b, ceiling := 0 })] }
     [window 18 3999 4000, window 21 0 1, window 18 10 10, window 18 0 4001].map (·.sealFault) =
       [none, some { table := 2, record := 1, reason := 6 }, some { table := 2, record := 1, reason := 7 },
        some { table := 2, record := 1, reason := 7 }]) ∧
    (let tag (t g d : Nat) : MapStore := { sealedYard with tags := sealedYard.tags ++ [(1, { tagId := t, segment := g, offset := d })] }
     [tag 1 18 4000, tag 1 21 0, tag 1 18 4001, tag 40003 18 0].map (·.sealFault) =
       [none, some { table := 3, record := 1, reason := 8 }, some { table := 3, record := 1, reason := 9 },
        some { table := 3, record := 1, reason := 10 }]) := by decide +kernel

/-- Segment 22 has both nodes of 16; 16 and 17 share 41, which is node A of 17 and node B of 16. -/
theorem wit_SealChecks_lookups :
    (let m : MapStore := { sealedYard with segments := sealedYard.segments ++ [(22, seg 500 0 41 40 none4 .lane)] }
     tableWf m.segments = true ∧ (m.present 18, m.present 21, m.present 1023) = (true, false, false) ∧
     [m.adjacency 16 22, m.adjacency 16 17, m.adjacency 17 16, m.adjacency 16 18, m.adjacency 16 16, m.adjacency 16 21] =
       [.both, .nodeA, .nodeB, .none, .none, .none] ∧
     (m.conflictSet 18, m.conflictSet 20, m.conflictSet 16) = ([18, 20], [20, 18], [16]) ∧
     ((m.windowsOn 18).length, (m.windowsOn 17).length) = (1, 0) ∧
     ((m.tag 40003).map (·.segment), m.tag 40004) = (some 18, none) ∧
     (m.baySegment 3 0, m.baySegment 3 1) = (19, 1023)) := by decide +kernel

theorem wit_MapClear : (PortFree mapped ∧ mapped.ctl.state = .config) ∧
    (PortFree (case1 0) ∧ (case1 0).ctl.state ≠ .config) := ⟨⟨free_mapped, rfl⟩, ⟨free_road _ _ _ _ _ _ _, nofun⟩⟩

def withId (id : Nat) (s : State) : State := { s with ctl := { s.ctl with id := id } }

theorem wit_StartAndJoinListen : PortFree (withId 0 cfg) ∧ PortFree (withId 63 cfg) ∧ PortFree mapped ∧
    [answer .start (withId 0 mapped), answer .start (withId 63 mapped), answer .start cfg] =
      [some { status := .refusedValue, data := [0#8] }, some { status := .refusedValue, data := [0#8] },
       some { status := .refusedValue, data := [1#8] }] ∧
    [1, 62].map (fun n => (after .start (withId n mapped)).ctl.state) = [.joining, .joining] ∧
    (road .offLine [17] 0 0 0 [] .hoist).ctl.state = .offLine ∧
    ((after .start mapped).ctl.joinTimer = some 3000000 ∧ (after .start mapped).pins.resetHeld = false) ∧ cfg.ctl.state ≠ .joining :=
  ⟨⟨⟨rfl, rfl, rfl, rfl⟩, rfl⟩, ⟨⟨rfl, rfl, rfl, rfl⟩, rfl⟩, free_mapped, by decide +kernel, by decide +kernel, rfl,
   by decide +kernel, by decide⟩

/-- A PARK segment of 20,000 on which the body lies. -/
def parkedState : State :=
  let s := road .run [16] 0 0 500 [own 16 .held 0 0] .hoist
  { s with map := { s.map with segments := [(16, seg 20000 2 40 41 none4 .park)] } }

theorem wit_LeaveDeparts : (PortFree parkedState ∧ parkedState.ctl.state = .run ∧ parkedState.parked = true) ∧
    (PortFree (case1 500) ∧ (case1 500).parked = false) ∧ (after .leave parkedState).ctl.state = .leaving :=
  ⟨⟨⟨⟨rfl, rfl, rfl, rfl⟩, rfl⟩, rfl, by decide +kernel⟩, ⟨free_road _ _ _ _ _ _ _, by decide +kernel⟩, by decide +kernel⟩

/-- The same without a stop, with its record current and a high permit line, the suspensions on and a list reported. -/
def departing (high : Bool) : State :=
  let s := parkedState
  let t : State := { s with route := { s.route with stop := none, armed := false } }
  { t with guide := t.guidance, line := { t.line with permit := high },
           claim := { t.claim with satSuspension := true, clash := some 9, lastHeld := [16] } }

/-- Departure under a high permit line and under a low one, with a notice that waited. -/
theorem wit_LeaveDeparts_departure : PortFree (departing true) ∧ (departing true).parked = true ∧ PermitLaw (departing true) ∧
    (let t := after .leave (departing true).buildPosition
     (departing true).line.permit = true ∧ t.line.permit = false ∧ t.flag .permitDrop = true ∧ t.link.replaced = 1 ∧
     (t.claim.satSuspension, t.claim.clash, t.claim.lastHeld) = (true, some 9, [])) ∧
    (after .leave (departing false)).flag .permitDrop = false :=
  ⟨⟨⟨rfl, rfl, rfl, rfl⟩, rfl⟩, by decide +kernel,
   ⟨fun _ => ⟨rfl, nofun, show 0 < (departing true).guide.ptl by decide +kernel⟩, fun h => absurd h (by decide +kernel),
    fun h => absurd h (by decide +kernel)⟩, by decide +kernel, by decide +kernel⟩

/-- An offset at the length and beyond it, sign 1 and 2, an absent segment. -/
theorem wit_SetPositionSeeds : PortFree (case1 0) ∧ (case1 0).ctl.state = .run ∧ (case1 0).map.present 17 = true ∧
    (case1 0).map.present 21 = false ∧ 0 < (case1 0).halfLength ∧ 0 < (case1 0).map.lengthOf 17 ∧
    [Instr.setPosition 17 5000 1, .setPosition 17 5001 0, .setPosition 17 0 2, .setPosition 21 0 0].map
      (fun i => (answer i (case1 0)).map (·.status)) =
    [some .done, some .doneClamped, some .refusedValue, some .refusedValue] :=
  ⟨free_road _ _ _ _ _ _ _, rfl, by decide +kernel, by decide +kernel, by decide +kernel, by decide +kernel, by decide +kernel⟩

/-- Beside a peer of any status that holds 20, of 18's conflict set, and beside one that does not; the records set before. -/
theorem wit_SetPositionSeeds_records :
    (let t (l : List Peer) : State :=
       let s := withPeers l (case1 0)
       after (.setPosition 18 0 0) { s with claim := { s.claim with
         doubles := [(27, 17)], faceOff := some { peer := 27, yields := true }, waitReported := true } }
     let u := t [peer 27 .lost 0 20 [20] []]
     u.flag .occupyConflict = true ∧ u.claim.list.map (·.seg) = [18] ∧ u.claim.doubles = [] ∧ u.claim.faceOff = none ∧
     u.claim.waitReported = false ∧ (t [peer 27 .fresh 0 20 [16] []]).flag .occupyConflict = false) := by decide +kernel

def unplaced : State :=
  let s := road .joining [] 0 0 0 [] .hoist
  { s with pos := .atReset, route := .atReset }

theorem wit_RouteReplaceWrites : (PortFree unplaced ∧ unplaced.ctl.state = .joining ∧ unplaced.pos.quality = .none) ∧
    (unplaced.map.present 17 = true ∧ unplaced.map.present 21 = false) ∧
    (PortFree (case1 0) ∧ (case1 0).pos.quality ≠ .none ∧ (case1 0).pos.index = some 0 ∧
      (case1 0).route.entries[0]? = some { seg := 17, sign := .plus }) ∧
    [Instr.routeReplace 0 [17, 18, 19] 1 2500, .routeReplace 0 [17, 18, 19] 1 2501, .routeReplace 0 [17, 19] 0 0,
     .routeReplace 1 [17] 0 0, .routeReplace 2 [17] 0 0, .routeReplace 0 [17] 2 0, .routeReplace 0 [] 0 0].map
      (fun i => (answer i (case1 0)).map (·.status)) =
    [some .done, some .doneClamped, some .doneCut, some .notHere, some .refusedValue, some .refusedValue, some .refusedValue] :=
  ⟨⟨⟨⟨rfl, rfl, rfl, rfl⟩, rfl⟩, rfl, rfl⟩, by decide +kernel, ⟨free_road _ _ _ _ _ _ _, nofun, rfl, rfl⟩, by decide +kernel⟩

def short : State := road .run [17, 18] 1200 0 0 [own 17 .held 0 0] .hoist

theorem wit_RouteAppendWrites : PortFree short ∧ short.ctl.state = .run ∧
    short.route.entries.getLast? = some { seg := 18, sign := .plus } ∧ unplaced.route.entries = [] ∧
    [Instr.routeAppend [19] 1 2500, .routeAppend [19] 1 2501, .routeAppend [21] 0 0, .routeAppend [] 0 0, .routeAppend [19] 2 0].map
      (fun i => (answer i short).map (·.status)) =
    [some .done, some .doneClamped, some .doneCut, some .refusedValue, some .refusedValue] :=
  ⟨free_road _ _ _ _ _ _ _, rfl, rfl, rfl, by decide +kernel⟩

/-- No cut; a cut by room, by an absent id, by one not adjacent. -/
theorem wit_RouteIdsContinue :
    [takeIds yard 2 2 ⟨16, .plus⟩ [17, 18], takeIds yard 1 2 ⟨16, .plus⟩ [17, 18], takeIds yard 9 2 ⟨16, .plus⟩ [17, 21],
     takeIds yard 9 2 ⟨16, .plus⟩ [17, 19], takeIds yard 0 2 ⟨16, .plus⟩ [17]].map (·.cut) =
    [none, some (.capacity, 3), some (.absent, 3), some (.notAdjacent, 3), some (.capacity, 2)] := by decide +kernel

/-- The segment before it again; against the sign of 17 its joining node is 41, a node of 16 and none of 18. -/
theorem wit_RouteIdsContinue_nodes :
    [takeIds yard 9 2 ⟨16, .plus⟩ [17, 17], takeIds yard 9 2 ⟨17, .minus⟩ [18], takeIds yard 9 2 ⟨17, .minus⟩ [16]].map
      (fun t => (t.entries, t.cut)) =
    [([⟨17, .plus⟩], some (.notAdjacent, 3)), ([], some (.notAdjacent, 2)), ([⟨16, .minus⟩], none)] := by decide +kernel

theorem wit_RouteClear : (PortFree mapped ∧ ¬ (mapped.ctl.state = .joining ∨ mapped.ctl.state = .run)) ∧
    (PortFree unplaced ∧ unplaced.ctl.state = .joining ∧ unplaced.pos.quality = .none) ∧
    (PortFree (case1 0) ∧ (case1 0).ctl.state = .run ∧ (case1 0).pos.quality ≠ .none ∧ (case1 0).pos.index = some 0) :=
  ⟨⟨free_mapped, by decide⟩, ⟨⟨⟨rfl, rfl, rfl, rfl⟩, rfl⟩, rfl, rfl⟩, ⟨free_road _ _ _ _ _ _ _, rfl, nofun, rfl⟩⟩

theorem wit_SetLoadAndPriority : PortFree (case1 0) ∧ (case1 0).ctl.state = .run ∧
    [Instr.setLoad 0, .setLoad 1, .setLoad 2, .setPriority 3, .setPriority 4].map
      (fun i => (answer i (case1 0)).map (·.status)) =
    [some .done, some .done, some .refusedValue, some .done, some .doneClamped] :=
  ⟨free_road _ _ _ _ _ _ _, rfl, by decide +kernel⟩

/-- All at their largest, no crane, each value one too large, an unlisted crane; a bay under the body leaves OPEN. -/
theorem wit_BayControl : PortFree (case3 .opened) ∧ (case3 .opened).ctl.state = .run ∧
    [Instr.bayControl 1 3 2 2 2 2, .bayControl 0 0 0 0 0 0, .bayControl 2 3 0 0 0 0, .bayControl 0 4 0 0 0 0,
     .bayControl 0 3 3 0 0 0].map (fun i => (answer i (case3 .opened)).map (·.status)) =
    [some .done, some .done, some .refusedValue, some .refusedValue, some .refusedValue] ∧
    (after (.bayControl 0 0 0 0 0 0) (case3 .opened)).flag .bayHold = true :=
  ⟨free_road _ _ _ _ _ _ _, rfl, by decide +kernel, by decide +kernel⟩

/-- Bay 0 of crane 3 leaves OPEN: its segment 19 WANTED and far ahead; HELD; HELD and DETACHED; under the body, of no
entry; the bay SHUT already (R129). -/
def bayStates : List State :=
  [road .run [17, 18, 19] 1200 0 1000 [own 17 .held 0 0, own 19 .wanted 2 9000] .opened,
   road .run [17, 18, 19] 1200 0 1000 [own 17 .held 0 0, own 18 .held 1 5000, own 19 .held 2 9000] .opened,
   road .run [17, 18] 1200 0 1000 [{ own 19 .held 0 9000 with tie := .detached }] .opened, road .run [19] 1200 0 1200 [] .opened,
   case3 .shut]

theorem wit_BayControl_hold : bayStates.map (fun s => (after (.bayControl 0 0 0 0 0 0) s).flag .bayHold) =
    [false, true, true, true, false] := by decide +kernel

theorem wit_StillControl : PortFree (case1 0) ∧ (case1 0).ctl.state = .run ∧
    [Instr.stillControl 1 1, .stillControl 2 0, .stillControl 0 2].map (fun i => (answer i (case1 0)).map (·.status)) =
    [some .done, some .refusedValue, some .refusedValue] ∧
    (after (.stillControl 0 0) (case1 0)).pos.motion = (case1 0).pos.motion :=
  ⟨free_road _ _ _ _ _ _ _, rfl, by decide +kernel, by decide +kernel⟩

/-- On the last entry of the route, at an offset beside its armed stop of 1,200. -/
def standing (off : Nat) : State := road .run [19] 1200 0 off [own 19 .held 0 0] .opened

theorem atStop_standing (off : Nat) (h : off ≤ 1220) (k : 1180 ≤ off) (s : State)
    (e : s = { standing off with pos := { (standing off).pos with motion := .still, force := true, detect := false } }) : AtStop s := by
  subst e
  exact ⟨1200, 0, rfl, rfl, rfl, nofun, rfl, rfl, h, by show 1200 ≤ off + 20; omega⟩

/-- The arrival test of a forced STILL, at both ends of the tolerance of 20 and beyond them (R56). -/
theorem wit_StillControl_arrives : PortFree (standing 1180) ∧ Motion.still ≠ (standing 1180).pos.motion ∧
    (AtStop { standing 1180 with pos := { (standing 1180).pos with motion := .still, force := true, detect := false } }) ∧
    [1179, 1180, 1220, 1221].map (fun n => (after (.stillControl 1 0) (standing n)).flag .arrived) = [false, true, true, false] ∧
    [1179, 1180, 1220, 1221].map (fun n => (after (.stillControl 1 0) (standing n)).route.armed) = [true, false, false, true] :=
  ⟨free_road _ _ _ _ _ _ _, nofun, atStop_standing 1180 (by omega) (by omega) _ rfl, by decide +kernel, by decide +kernel⟩

def withPeer27 (st : PeerStatus) : State := withPeers [peer 27 st 4 20 [] []] (case1 0)

theorem wit_ClearPeer : (PortFree mapped ∧ ¬ (mapped.ctl.state = .joining ∨ mapped.ctl.state = .run)) ∧
    PortFree (withPeer27 .lost) ∧ (withPeer27 .lost).ctl.state = .run ∧ (∀ p ∈ (withPeer27 .lost).peers.entries, p.id ≠ 256) ∧
    (∃ p ∈ (withPeer27 .lost).peers.entries, p.id = 27) :=
  ⟨⟨free_mapped, by decide⟩, free_peers _ _ (free_road _ _ _ _ _ _ _), rfl, by decide +kernel, by decide +kernel⟩

theorem wit_PlainReads : PortFree (case1 0) := free_road _ _ _ _ _ _ _

theorem wit_ReadsThatClear : PortFree (withPeer27 .fresh) ∧
    (withPeer27 .fresh).peers.entries[0]? = some (peer 27 .fresh 4 20 [] []) ∧ (withPeer27 .fresh).peers.entries.length ≤ 1 :=
  ⟨free_peers _ _ (free_road _ _ _ _ _ _ _), rfl, by decide⟩

/-- The attention line: a flag with its mask bit, without it, none, and one while the reset input is held (R174). -/
theorem wit_ReadsThatClear_attention :
    (let s (e : Event) (mask : Int) : State := State.raise e { cfg with ctl := { cfg.ctl with tuning := cfg.ctl.tuning.set 46 mask } }
     [s .arrived 1, s .permitDrop 4096, s .permitDrop 4095, s .arrived 8190, cfg, held (s .arrived 1)].map State.attentionLow =
       [true, true, false, false, false, false]) := by decide +kernel

/-- A race at its pulse limit, a still race at the still threshold of 1. -/
theorem wit_WheelPulseAndRaceEnd : cfg.pins.resetHeld = false ∧
    (after .raceEnd { cfg with clock := 83700, odo := { cfg.odo with racePulses := 16 } }).odo.speed = 300 ∧
    (after .raceEnd { cfg with odo := { cfg.odo with racePulses := 1 }, pos := { cfg.pos with stillCount := 2 } }).pos.motion = .still := by
  decide +kernel

/-- A race that is discarded, one that is credited and moves, one that changes nothing in the record. -/
theorem wit_WheelPulseAndRaceEnd_ends :
    let s := case1 1000
    let still := after .raceEnd { s with odo := { s.odo with racePulses := 1, uncredited := 1 }, pos := { s.pos with stillCount := 9 } }
    let moves := after .raceEnd { s with odo := { s.odo with racePulses := 16, uncredited := 16 } }
    let keeps := after .raceEnd s
    (still.pos.offset, still.pos.motion, moves.pos.offset, moves.odo.residue, keeps.pos.offset) =
      (1000, .still, 1025, 12, 1000) := by decide +kernel

/-- The race that turns the motion STILL at the stop raises ARRIVED. -/
theorem wit_WheelPulseAndRaceEnd_arrives :
    [1220, 1221].map (fun n =>
      let s := standing n
      (after .raceEnd { s with pos := { s.pos with stillCount := 9 } }).flag .arrived) = [true, false] := by decide +kernel

/-- The centre on 18 with 17 behind it, at an offset on 18. -/
def onSecond (off : Nat) (claims : List Claim) : State := road .run [17, 18] 1200 1 off claims .hoist

/-- A release that matches entry 0 behind the current one; one that does not, and one with the current entry at 0. -/
theorem wit_WheelPulseAndRaceEnd_release : (onSecond 0 []).route.entries = ⟨17, .plus⟩ :: [⟨18, .plus⟩] ∧
    (onSecond 0 []).pos.index = some (0 + 1) ∧ ((onSecond 0 []).routeRelease 17).route.entries = [⟨18, .plus⟩] ∧
    (onSecond 0 []).routeRelease 18 = onSecond 0 [] ∧ ((case1 0).pos.index = some 0 ∧ (case1 0).routeRelease 17 = case1 0) := by
  decide +kernel

/-- The rear end at the release margin and 1 beyond it, without and with a claim that names entry 0; no body. -/
theorem wit_WheelPulseAndRaceEnd_trim : cfg.body = none ∧ (onSecond 600 []).body = some { front := 6100, rear := 5100 } ∧
    (onSecond 601 []).body = some { front := 6101, rear := 5101 } ∧
    [onSecond 600 [], onSecond 601 [], onSecond 601 [own 17 .wanted 0 0]].map (fun s => s.trim.route.entries.length) =
      [2, 1, 2] := by decide +kernel

theorem wit_DirectionRows : cfg.pins.resetHeld = false ∧ cfg.odo.directionDue = none ∧
    (after .directionLevelChange cfg).odo.directionDue = some 1000 ∧ (after .directionLevelChange cfg).clock < 1000 := by
  decide +kernel

/-- A movement to the last entry's end, one beyond it, one to the first entry's start and one before it. -/
theorem wit_CreditLands : [landing [500, 600] .ahead 0 100 1000, landing [500, 600] .ahead 0 100 1001,
      landing [500, 600] .back 1 100 600, landing [500, 600] .back 1 100 601] =
    [⟨1, 600, 0⟩, ⟨1, 600, 1⟩, ⟨0, 0, 0⟩, ⟨0, 0, 1⟩] ∧ (case1 0).pos.index = some 0 ∧ cfg.pos.index = none := by decide +kernel

/-- R35: the fix gap of 15,000 reached and passed by the one centimetre of a credit. -/
theorem wit_CreditLands_gap : [14999, 15000].map (fun n =>
      let s := case1 0
      ({ s with pos := { s.pos with sinceFix := n }, odo := { s.odo with residue := 100 } } : State).credit.pos.quality) =
    [.good, .doubtful] := by decide +kernel

def tagged (off : Nat) (id : Nat) : State :=
  let s := road .run [17, 18, 19] 1200 0 off [own 17 .held 0 0, own 18 .held 1 5000] .hoist
  after (.readerLeadByte 0xA5#8) { s with map := { s.map with tags := [(0, { tagId := id, segment := 17, offset := 1000 })] } }

/-- Fix position 950: errors of 5, 6, 120 and 121; an unknown tag; a fix before the route's start. -/
theorem wit_TagReadFix :
    (let s := tagged 945 40003
     s.pins.resetHeld = false ∧ s.ctl.state ≠ .config ∧ s.pins.reader = some { bytes := [], gapEnd := 5000 } ∧ s.clock ≤ 5000 ∧
     readTag 0x00#8 0x9C#8 0x43#8 0xCE#8 0x11#8 = some (40003, -50) ∧ s.creditReported.centre = some 945 ∧
     s.creditReported.fixPosition { tagId := 40003, segment := 17, offset := 1000 } (-50) = some 950 ∧
     s.creditReported.fixPosition { tagId := 40003, segment := 17, offset := 49 } (-50) = none) ∧
    [945, 944, 830, 829].map (fun off =>
      let p := (after (.tagRead 0x00#8 0x9C#8 0x43#8 0xCE#8 0x11#8) (tagged off 40003)).pos
      (p.cored, p.accepted, p.rejected)) = [(1, 0, 0), (0, 1, 0), (0, 1, 0), (0, 0, 1)] ∧
    (tagged 945 7).map.tag 40003 = none := by decide +kernel

/-- A read that credits before it is located, one that seeds a position, and a fix on the boundary of 17 and 18, which
lies on 17. -/
theorem wit_TagReadFix_more :
    (let s := tagged 900 40003
     let t := { s with odo := { s.odo with uncredited := 16 } }
     t.credit.pos.reported ≠ t.pos.reported ∧
     (after (.tagRead 0x00#8 0x9C#8 0x43#8 0xCE#8 0x11#8) t).pos.offset = 950) ∧
    (let s := tagged 0 40003
     let t := { s with pos := { s.pos with index := none, quality := .none }, claim := { s.claim with list := [] } }
     t.creditReported.centre = none ∧
     (let u := after (.tagRead 0x00#8 0x9C#8 0x43#8 0xCE#8 0x11#8) t
      (u.pos.index, u.pos.offset, u.pos.quality) = (some 0, 950, .good))) ∧
    (let s := tagged 4990 40003
     let t := { s with map := { s.map with tags := [(0, { tagId := 40003, segment := 18, offset := 50 })] } }
     let u := after (.tagRead 0x00#8 0x9C#8 0x43#8 0xCE#8 0x11#8) t
     (u.pos.index, u.pos.offset) = (some 0, 5000)) := by decide +kernel

/-- A route of PLUS entries but for one, a current index or none, an orientation, a tag on 17 and a reader offset. -/
def located (route : List Nat) (minus : Option Nat) (cur : Option Nat) (o : Orientation) (at' : Nat) (off : Int) : Option Int :=
  let s := road .run route 0 0 0 [] .hoist
  let s : State := { s with
    ctl := { s.ctl with orientation := o }, pos := { s.pos with index := cur },
    route := { s.route with entries := route.mapIdx (fun i g => { seg := g, sign := if minus = some i then .minus else .plus }) } }
  s.fixPosition { tagId := 40003, segment := 17, offset := at' } off

/-- R29: two and three beyond the current entry; the nearest, of two equally near the one ahead, and without a current
entry the lowest; a MINUS entry and each orientation; the route's two ends and one centimetre beyond them. -/
theorem wit_TagReadFix_located :
    [located [16, 18, 17] none (some 0) .along 1000 0, located [16, 18, 19, 17] none (some 0) .along 1000 0] = [some 8000, none] ∧
    [some 0, some 1, some 2, none].map (fun cur => located [17, 18, 17] none cur .along 1000 0) =
      [some 1000, some 10000, some 10000, some 1000] ∧
    [located [17] (some 0) (some 0) .along 1000 (-50), located [17] none (some 0) .along 1000 (-50),
     located [17] none (some 0) .against 1000 (-50)] = [some 3950, some 950, some 1050] ∧
    [located [17] none (some 0) .along 50 (-50), located [17] none (some 0) .along 49 (-50),
     located [17] none (some 0) .along 4950 50, located [17] none (some 0) .along 4951 50] = [some 0, none, some 5000, none] := by
  decide +kernel

def reading (bytes : List Byte) (gapEnd : Nat) : State :=
  { case1 0 with pins := { (case1 0).pins with reader := some { bytes := bytes, gapEnd := gapEnd } }, clock := 5000 }

/-- A gap at its last microsecond and one past it; four bytes before the last; offsets of 100 and 101. -/
theorem wit_ReaderLine : cfg.pins.resetHeld = false ∧ cfg.pins.reader = none ∧
    (reading [] 5000).clock ≤ 5000 ∧ 4999 < (reading [] 4999).clock ∧ (reading [] 5000).ctl.state ≠ .config ∧
    (after (.readerLeadByte 0#8) (reading [] 4999)).pins.reader = none ∧
    (after (.readerLeadByte 0#8) (reading [1#8, 2#8, 3#8] 5000)).pins.reader =
      some { bytes := [1#8, 2#8, 3#8, 0#8], gapEnd := 10000 } ∧
    (after (.readerLeadByte 0x11#8) (reading [0x00#8, 0x9C#8, 0x43#8, 0xCE#8] 5000)).pos.rejected = 1 ∧
    (after (.readerLeadByte 0x12#8) (reading [0x00#8, 0x9C#8, 0x43#8, 0xCE#8] 5000)).pos = (case1 0).pos ∧
    (readTag 0#8 0#8 1#8 100#8 101#8 = some (1, 100) ∧ 100 < (101#8).toInt ∧ (155#8).toInt < -100) := by decide +kernel

/-- Offsets of -100 and 100 and one beyond each, the id 0, an id of three bytes, a wrong check. -/
theorem wit_ReaderLine_bytes :
    [readTag 0#8 0#8 1#8 0x9C#8 0x9D#8, readTag 0#8 0#8 1#8 0x9B#8 0x9A#8, readTag 0#8 0#8 1#8 0x64#8 0x65#8,
     readTag 0#8 0#8 1#8 0x65#8 0x64#8, readTag 0#8 0#8 0#8 5#8 5#8, readTag 1#8 2#8 3#8 0#8 0#8, readTag 0#8 0#8 1#8 5#8 5#8] =
    [some (1, -100), none, some (1, 100), none, none, some (66051, 0), none] := by decide +kernel

def lined (code pending : Nat) (high : Bool) : State := { cfg with line := { cfg.line with code := code, pendingCode := pending, high := high } }

/-- A recomputation that changes nothing and one that raises the permit; codes 0, 1, 254 and 255. -/
theorem wit_CeilingLine : (cfg.guidance.permit, cfg.guidance.code) = (cfg.guide.permit, cfg.guide.code) ∧
    ((case1 2500).guidance.permit, (case1 2500).guidance.code) ≠ ((case1 2500).guide.permit, (case1 2500).guide.code) ∧
    cfg.pins.resetHeld = false ∧ (cfg.clock ≤ cfg.line.periodStart + 10000) ∧
    [lined 0 0 false, lined 0 1 false, lined 0 255 false].map (fun s => (after .periodStart s).line.high) = [false, true, true] ∧
    [lined 254 0 true, lined 255 0 true].map (fun s => (after .widthReached s).line.high) = [false, true] := by decide +kernel

/-- A fall of the permit: the record loses its grounds while the line is high. -/
theorem wit_CeilingLine_fall :
    (let s := road .joining [17] 0 0 2500 [own 17 .held 0 0] .hoist
     let t : State := { s with guide := { s.guide with permit := true, code := 9 }, line := { s.line with permit := true, code := 9 } }
     t.line.permit = true ∧ t.guidance.permit = false ∧ (t.guidance.permit, t.guidance.code) ≠ (t.guide.permit, t.guide.code) ∧
     t.recompute.flag .permitDrop = true) := by decide +kernel

/-- A change that keeps the lines, as every event of the Claim Unit, the arrival test and the trim do. -/
theorem wit_CeilingLine_line : ((case1 2500).testArrival.trim).line = (case1 2500).line ∧
    (ownNothing (case1 2500)).1.line = (case1 2500).line ∧
    (claimEvent ownRouteChange true (case1 2500)).1.line = (case1 2500).line := by decide +kernel

def frame27 : List Byte := framed (Notice.position (notice 27 5 [20] [])).bytes

/-- A frame in CONFIG, a bad frame, a good one at a queue of three and of four. -/
theorem wit_FrameArrival : cfg.ctl.state = .config ∧ (case1 0).ctl.state ≠ .config ∧ (case1 0).pins.resetHeld = false ∧
    framePasses [0#8, 0#8] = false ∧ framePasses frame27 = true ∧
    readNotice frame27 = some (.position (notice 27 5 [20] [])) ∧
    [3, 4].map (fun n => (after (.modemFrameArrival frame27)
      { case1 0 with link := { (case1 0).link with queue := List.replicate n frame27 } }).link.dropped) = [0, 1] := by decide +kernel

def leaving (n : Nat) : State :=
  let s := road .leaving [17] 0 0 2500 [] .hoist
  { s.buildLeave with sched := { s.buildLeave.sched with leaveCount := n } }

theorem wit_StartOfSend : cfg.pins.resetHeld = false ∧ cfg.link.slot = none ∧
    (∃ p f, (case1 0).buildPosition.link.slot = some { notice := .position p, frame := f }) ∧
    (∃ f, (leaving 2).link.slot = some { notice := .leave 11 0, frame := f }) ∧
    ((leaving 2).ctl.state = .leaving ∧ 3 ≤ (leaving 2).sched.leaveCount + 1) ∧ (leaving 1).sched.leaveCount + 1 < 3 ∧
    [1, 2].map (fun n => (after .startOfSend (leaving n)).ctl.state) = [.leaving, .offLine] :=
  ⟨rfl, rfl, ⟨_, _, rfl⟩, ⟨_, rfl⟩, by decide +kernel, by decide +kernel, by decide +kernel⟩

def full (st : PeerStatus) : State := withPeers ((List.range 48).map (fun i => peer (i + 100) st 0 20 [] [])) (case1 0)

/-- Own id; 127 behind (stale) and 128 behind (accepted) of sequence 4; a new station at 47 and 48 entries; a LEAVE of
each kind. -/
theorem wit_FrameParse : (case1 0).pins.resetHeld = false ∧ (case1 0).ctl.state ≠ .config ∧
    (∃ rest, (queued (.position (notice 27 5 [20] [])) (case1 0)).link.queue = frame27 :: rest) ∧
    (after .frameParse (queued (.position (notice 11 5 [] [])) (case1 0))).flag .idClash = true ∧
    [133, 132].map (fun q => (after .frameParse (queued (.position (notice 27 q [] [])) (withPeer27 .fresh))).link.stale) = [1, 0] ∧
    [0, 1].map (fun n => (after .frameParse (queued (.position (notice 27 5 [] []))
      (withPeers ((full .lost).peers.entries.drop n) (full .lost)))).peers.entries.length) = [48, 48] ∧
    (after .frameParse (queued (.position (notice 27 5 [] [])) (full .fresh))).flag .saturated = true ∧
    (after .frameParse (queued (.leave 27 5) (withPeer27 .fresh))).peers.entries = [] ∧
    (after .frameParse (queued (.leave 27 4) (withPeer27 .fresh))).link.stale = 1 ∧
    (after .frameParse (queued (.leave 28 4) (withPeer27 .fresh))).peers = (withPeer27 .fresh).peers ∧
    (after .frameParse (queued (.leave 11 4) (withPeer27 .fresh))).flag .idClash = true :=
  ⟨rfl, nofun, ⟨[], rfl⟩, by decide +kernel, by decide +kernel, by decide +kernel, by decide +kernel, by decide +kernel,
   by decide +kernel, by decide +kernel, by decide +kernel⟩

/-- Of 48 candidates heard at one time the lowest index leaves; what each report leaves: the clash timer, the saturation
suspension on and off (R81, R88, R89, R90, R104). -/
theorem wit_FrameParse_reports :
    ((after .frameParse (queued (.position (notice 27 5 [] [])) (full .lost))).peers.entries.map (·.id)).take 2 = [101, 102] ∧
    (after .frameParse (queued (.position (notice 11 5 [] [])) (case1 0))).claim.clash = some 10000000 ∧
    (let t := after .frameParse (queued (.position (notice 27 5 [] [])) (full .fresh))
     (t.claim.satSuspension, t.peers.saturation) = (true, some 10000000) ∧
     (after .frameParse (queued (.leave 100 1) t)).claim.satSuspension = false) := by decide +kernel

/-- R129: the notice takes the bay under the body out of OPEN. -/
theorem wit_CraneNoticeParse_hold :
    (after .frameParse (queued (.crane 3 [.hoist, .shut, .shut, .shut]) (case3 .opened))).flag .bayHold = true := by decide +kernel

theorem wit_CraneNoticeParse : (case1 0).pins.resetHeld = false ∧ (case1 0).ctl.state ≠ .config ∧
    readNotice (framed (Notice.crane 3 [.opened, .hoist, .shut, .shut]).bytes) = some (.crane 3 [.opened, .hoist, .shut, .shut]) ∧
    (∃ c ∈ (case1 0).bays.cranes, c.id = 3) ∧ (∀ c ∈ (case1 0).bays.cranes, c.id ≠ 0) := by decide +kernel

theorem wit_CraneNoticeParse_holds :
    bayStates.map (fun s => (after .frameParse (queued (.crane 3 [.hoist, .shut, .shut, .shut]) s)).flag .bayHold) =
    [false, true, true, true, false] := by decide +kernel

def timed (st : StationState) (pend : Bool) (count : Nat) : State :=
  let s := road st [17] 0 0 2500 [] .hoist
  { s with sched := { s.sched with
      cadence := some 9, guard := some 9, window := some { closes := 9, coincident := true }, nearCount := 3,
      pendingNotice := pend, leaveCount := count } }

theorem wit_SchedulerTimers : cfg.pins.resetHeld = false ∧ cfg.sched.cadence = none ∧ cfg.sched.guard = none ∧
    cfg.sched.window = none ∧ (timed .run true 0).sched.cadence = some 9 ∧ (timed .run true 0).sched.guard = some 9 ∧
    [timed .run true 0, timed .run false 0, timed .leaving false 2, timed .leaving false 3].map
      (fun s => (after .promptGuardExpiry s).sched.guard) = [some 100009, none, some 100009, none] ∧
    (after .coincidenceWindowClose (timed .run true 0)).sched.slotIndex = 1 := by decide +kernel

/-- A list that differs from the last reported one: no guard, a guard that runs, out of the working states; one that does
not differ. The interval of slot 0 while STILL and, by its three pattern entries, while MOVING (R70, R73, R115). -/
theorem wit_SchedulerTimers_lists :
    [case1 0, { case1 0 with sched := { (case1 0).sched with guard := some 9 } },
     { case1 0 with ctl := { (case1 0).ctl with state := .leaving } }, (case1 0).reportLists].map (fun s =>
       let t := s.reportLists
       (t.claim.lastHeld, t.claim.lastWanted, t.link.slot.isSome, t.sched.guard, t.sched.pendingNotice)) =
    [([17, 18], [19], true, some 100000, false), ([17, 18], [19], false, some 9, true), ([17, 18], [19], false, none, false),
     ([17, 18], [19], true, some 100000, false)] ∧
    [Motion.still, .moving].map (fun m => [0, 1, 2].map (fun k =>
      let s := case1 0
      ({ s with pos := { s.pos with motion := m },
                ctl := { s.ctl with tuning := (s.ctl.tuning.set 12 700 |>.set 13 900 |>.set 14 800 |>.set 15 k) } } : State).slotInterval 0)) =
    [[900, 900, 900], [700, 900, 800]] := by decide +kernel

/-- No entry; each status; quiet time below the lost time and equal to it. -/
theorem wit_PeerTimers : cfg.pins.resetHeld = false ∧ (∀ p ∈ cfg.peers.entries, p.id ≠ 27) ∧
    [PeerStatus.fresh, .quiet, .lost].map (fun st =>
      (after (.peerLost 27) (withPeer27 st)).peers.entries.map (·.status)) = [[.lost], [.lost], [.lost]] ∧
    (withPeer27 .fresh).quietTime < (withPeer27 .fresh).lostTime ∧
    (let s := withPeer27 .fresh
     let t : State := { s with ctl := { s.ctl with tuning := (s.ctl.tuning.set 24 3000).set 25 3000 } }
     t.lostTime ≤ t.quietTime ∧ (after (.quietTimeReached 27) t).peers = t.peers) ∧
    cfg.peers.saturation = none ∧ ({ cfg with peers := { cfg.peers with saturation := some 7 } } : State).peers.saturation = some 7 := by
  decide +kernel

theorem wit_ClaimTimers : cfg.pins.resetHeld = false ∧ cfg.claim.clash = none ∧
    (let s := case1 0
     let w := { own 19 .wanted 2 9000 with waitStart := some 5 }
     let t : State := { s with claim := { s.claim with list := [w], clash := some 7 } }
     t.claim.clash = some 7 ∧ t.ctl.state = .run ∧ t.claim.waitReported = false ∧
     t.claim.list.find? (fun e => e.state == .wanted) = some w ∧ w.waitStart = some 5) ∧
    ¬ (cfg.ctl.state = .joining ∨ cfg.ctl.state = .run) ∧ cfg.claim.list.find? (fun e => e.state == .wanted) = none := by
  decide +kernel

/-- The wait timer: W new at this event, W with its start kept, no W (R113). -/
theorem wit_ClaimTimers_wait :
    [[own 17 .held 0 0, own 18 .wanted 1 5000, { own 19 .wanted 2 9000 with waitStart := some 2 }],
     [own 17 .held 0 0, { own 18 .wanted 1 5000 with waitStart := some 3 }], [{ own 17 .held 0 0 with waitStart := some 4 }]].map (fun l =>
       let s := case1 0
       let t := ({ s with clock := 7, claim := { s.claim with list := l, waitReported := true } } : State).settleWait
       (t.claim.list.map (·.waitStart), t.claim.waitReported)) =
    [([none, some 7, none], false), ([none, some 3], true), ([none], true)] := by decide +kernel

theorem wit_CraneSilence_holds : bayStates.map (fun s => (after (.craneSilenceExpiry 3) s).flag .bayHold) =
    [false, true, true, true, false] := by decide +kernel

theorem wit_CraneSilence : cfg.pins.resetHeld = false ∧ cfg.ctl.state = .config ∧
    (let s := case3 .opened
     s.ctl.state ≠ .config ∧ s.bays.cranes.find? (fun c => c.id == 3) = some (crane3 .opened) ∧
     (crane3 .opened).heardAt = some 0 ∧ (crane3 .opened).silent = false ∧ s.bays.snoop = true ∧
     (after (.craneSilenceExpiry 3) s).flag .bayHold = true ∧
     (after (.craneSilenceExpiry 3) (after (.craneSilenceExpiry 3) s)).bays = (after (.craneSilenceExpiry 3) s).bays) := by
  decide +kernel

/-- Eight held ids and four wanted, every field at its largest. -/
theorem wit_NoticeRoundTrip :
    (let p : PositionNotice := { notice 255 255 (List.replicate 8 1023) (List.replicate 4 1023) with
      prec := 3, segment := 1023, offset := 65535, speed := 65535 }
     p.id < 256 ∧ p.sequence < 256 ∧ p.prec < 4 ∧ p.segment < 1024 ∧ p.offset < 65536 ∧ p.speed < 65536 ∧
     p.held.length ≤ 8 ∧ p.wanted.length ≤ 4 ∧ (∀ g ∈ p.held ++ p.wanted, g < 1024)) ∧
    (BayState.opened ≠ .unknown ∧ BayState.hoist ≠ .unknown ∧ BayState.shut ≠ .unknown) := by decide +kernel

/-- A body, both held runs, a slow window under it; a state without a run; the roots of 0, 3 and 4. -/
theorem wit_LimitLaws : (case1 2500).body = some { front := 3000, rear := 2000 } ∧
    ((case1 2500).forwardRun { front := 3000, rear := 2000 }).getLast? ≠ none ∧
    ((case1 2500).backwardRun { front := 3000, rear := 2000 }).getLast? ≠ none ∧
    (let s := case2 2000 .opened
     s.body = some { front := 2500, rear := 1500 } ∧
     (s.routeUnder { front := 2500, rear := 1500 }).map (fun p => (s.map.windowsOn p.seg).length) = [1] ∧ s.guidance.ceiling ≤ 100) ∧
    (road .run [17] 0 0 2500 [] .hoist).forwardRun { front := 3000, rear := 2000 } = [] ∧
    (road .run [17] 0 0 2500 [] .hoist).guidance.permit = false ∧ [0, 3, 4].map isqrt = [0, 1, 2] := by decide +kernel

/-- The body in a bay: HOIST holds it, SHUT holds only what carries it deeper (R136). -/
theorem wit_LimitLaws_bays :
    (case3 .hoist).bayOf 19 = some .hoist ∧ ((case3 .hoist).guidance.ptl, (case3 .hoist).guidance.rearward) = (0, 0) ∧
    (let s := case2 4000 .shut
     s.body = some { front := 4500, rear := 3500 } ∧ (19, 4000, 6500) ∈ s.stretchesUnder { front := 4500, rear := 3500 } ∧
     s.guidance.ptl = 0 ∧ 0 < s.guidance.rearward) ∧
    (case3 .shut).guidance.rearward = 550 := by decide +kernel

/-- The held runs: the front end on a boundary, which is the end of the entry behind it, and the rear end on one, which is
the start of the entry before it; an end off the route (R134). -/
theorem wit_LimitLaws_runs :
    (let s := road .run [17, 18] 1200 0 4500 [own 17 .held 0 0] .hoist
     let b : Body := { front := 5000, rear := 4000 }
     s.body = some b ∧ (∃ p, s.spans[0]? = some p ∧ p.start < b.front ∧ b.front ≤ p.stop ∧ p.start ≤ b.rear ∧ b.rear < p.stop) ∧
     (s.forwardRun b).map (·.seg) = [17] ∧ (s.backwardRun b).map (·.seg) = [17]) ∧
    (let s := road .run [17, 18] 1200 1 500 [own 17 .held 0 0, own 18 .held 1 5000] .hoist
     let b : Body := { front := 6000, rear := 5000 }
     s.body = some b ∧ (∃ p, s.spans[1]? = some p ∧ p.start ≤ b.rear ∧ b.rear < p.stop) ∧
     (s.backwardRun b).map (·.seg) = [18, 17]) ∧
    (let s := road .run [17] 1200 0 4501 [own 17 .held 0 0] .hoist
     s.body = some { front := 5001, rear := 4001 } ∧ ∀ p ∈ s.spans, ¬ (p.start < 5001 ∧ 5001 ≤ p.stop)) ∧
    (let s := road .run [17] 1200 0 499 [own 17 .held 0 0] .hoist
     s.body = some { front := 999, rear := -1 } ∧ ∀ p ∈ s.spans, ¬ (p.start ≤ -1 ∧ -1 < p.stop)) := by
  refine ⟨⟨by decide +kernel, ⟨_, rfl, by decide +kernel⟩, by decide +kernel, by decide +kernel⟩,
    ⟨by decide +kernel, ⟨_, rfl, by decide +kernel⟩, by decide +kernel⟩, by decide +kernel, by decide +kernel⟩

/-- What gave the ceiling: a station AHEAD, GOOD and DOUBTFUL, and one that backs (R141, R144, R145). -/
theorem wit_LimitLaws_causes :
    (let s := case1 2500
     let doubtful : State := { s with pos := { s.pos with quality := .doubtful } }
     let back : State := { s with odo := { s.odo with direction := .reverse } }
     (s.guidance.permit, doubtful.guidance.permit, back.guidance.permit) = (true, true, true) ∧
     (s.sense, back.sense) = (.ahead, .back) ∧ doubtful.guidance.cause = .quality ∧
     (back.guidance.cause, back.guidance.ceiling) = (.quality, back.creep)) := by decide +kernel

/-- 06, the worked sequence, at 400: 18 is promoted at the maturing count of 3. -/
theorem wit_PromotionLaw :
    (let s := road .run [17, 18, 19] 1200 0 2500 [own 17 .held 0 0, { own 18 .wanted 1 5000 with advertised := 3 }] .hoist
     18 ∈ heldIds s.examine.claim.list ∧ 18 ∉ heldIds s.claim.list) := by decide +kernel

/-- 17 held, 18 wanted with a count, beside peers. -/
def asking (count : Nat) (peers : List Peer) : State :=
  withPeers peers (road .run [17, 18, 19] 1200 0 2500 [own 17 .held 0 0, { own 18 .wanted 1 5000 with advertised := count }] .hoist)

/-- The conditions of R102 beside a FRESH asker of higher key, a QUIET neighbour far away and a LOST asker; the count at
the maturing count and below it. -/
theorem wit_PromotionLaw_promotes :
    (let s := asking 3 [peer 27 .fresh 0 16 [16] [20], peer 5 .quiet 0 16 [] [], peer 6 .lost 0 20 [] [20]]
     s.claim.list.find? (fun e => e.state == .wanted) = some { own 18 .wanted 1 5000 with advertised := 3 } ∧
     heldCount s.claim.list < 8 ∧ s.ctl.state = .run ∧ s.pos.quality ≠ .none ∧ s.claim.satSuspension = false ∧
     s.claim.clash = none ∧ s.maturing ≤ 3 ∧
     (∀ p ∈ s.peers.entries, (∀ h ∈ p.held, h ∉ s.map.conflictSet 18) ∧
       (p.status ≠ .lost → (∃ h ∈ p.wanted, h ∈ s.map.conflictSet 18) →
         ¬ (p.prec < s.claim.prec ∨ (p.prec = s.claim.prec ∧ p.id < s.ctl.id))) ∧
       (p.status = .quiet → p.segment ∉ s.map.conflictSet 18 ∧ s.map.adjacency 18 p.segment = .none)) ∧
     s.bayOf 18 = none) ∧
    [2, 3].map (fun n => heldIds (asking n []).examine.claim.list) = [[17], [17, 18]] := by decide +kernel

/-- 06, the worked face-off: the peer holds 20, of 18's conflict set, and wants 17. Its first finding, and its second. -/
theorem wit_PromotionLaw_faceOff :
    (let s := asking 0 [peer 27 .fresh 0 20 [20] [17], peer 28 .quiet 0 20 [20] [17], peer 5 .lost 0 20 [20] [17]]
     let t := s.testFaceOff
     heldIds s.examine.claim.list = heldIds s.claim.list ∧
     s.claim.list.find? (fun e => e.state == .wanted) = some (own 18 .wanted 1 5000) ∧
     (∀ p ∈ s.peers.entries, (∃ h ∈ p.held, h ∈ s.map.conflictSet 18) ∧ p.wanted.head? = some 17) ∧
     (∃ e ∈ s.claim.list, e.state = .held ∧ 17 ∈ s.map.conflictSet e.seg) ∧
     t.claim.faceOff = some { peer := 27, yields := false } ∧ t.flag .faceOff = true ∧ t.port.faceOffPeer = some 27 ∧
     t.testFaceOff = t ∧ (case1 0).testFaceOff.claim.faceOff = none) := by decide +kernel

/-- The claim reach of 8,000 from the front end: 19 begins 8,000 ahead, and 7,999; a list without a ROUTE entry. -/
theorem wit_PromotionLaw_fill :
    (let s (off : Nat) (l : List Claim) := road .run [17, 18, 19] 1200 0 off l .hoist
     [500, 501].map (fun n => (s n [own 17 .held 0 0]).fill.claim.list.map (·.seg)) = [[17, 18], [17, 18, 19]] ∧
     (s 500 []).pos.index = some 0 ∧ (s 500 []).body = some { front := 1000, rear := 0 } ∧
     (s 500 []).fill.claim.list.map (·.seg) = [17, 18] ∧
     (∃ pre e post k, (s 500 [own 17 .held 0 0]).claim.list = pre ++ e :: post ∧ e.tie = .route k ∧
       (∀ x ∈ post, x.tie = .detached) ∧ 1 = k + 1)) :=
  ⟨by decide +kernel, rfl, by decide +kernel, by decide +kernel, [], _, [], 0, rfl, rfl, nofun, rfl⟩

/-- Eight HELD entries from a span start on, one every 500, DETACHED where told. -/
def eight (start : Int) (detached : List Nat) : List Claim :=
  (List.range 8).map (fun i =>
    { own (i + 30) .held i (start + 500 * i) with tie := if i ∈ detached then .detached else .route i })

/-- Occupancy beside seven HELD entries and beside eight, with a peer that holds a conflicting segment and without. -/
theorem wit_PromotionLaw_occupy :
    (let s (l : List Claim) (peers : List Peer) := withPeers peers (road .run [17, 18] 1200 1 0 l .hoist)
     let b : Body := { front := 5500, rear := 4500 }
     let p : Span := { index := 1, seg := 18, sign := .plus, start := 5000, stop := 9000 }
     let t (l : List Claim) (peers : List Peer) := State.occupyEntry b (s l peers, []) p
     (s [] []).body = some b ∧ 18 ∈ heldIds (s [own 18 .held 1 5000] []).claim.list ∧
     heldCount (s ((eight 3000 []).drop 1) []).claim.list = 7 ∧ heldCount (s (eight 3000 []) []).claim.list = 8 ∧
     [t ((eight 3000 []).drop 1) [], t (eight 3000 []) [], t (eight 3000 []) [peer 27 .lost 0 20 [20] []]].map
       (fun r => (heldCount r.1.claim.list, r.1.flag .occupyConflict)) = [(8, false), (8, false), (8, true)]) := by decide +kernel

/-- The body has backed onto the first passage of 17, whose second passage is WANTED with 19 after it: both go, and filling
waits; with the first passage released it adds both again (R100; log 12). On its own route entry a WANTED entry stays. -/
theorem wit_PromotionLaw_passages :
    (let s (off : Nat) (l : List Claim) := road .run [17, 18, 17, 19] 0 0 off l .hoist
     let b : Body := { front := 5000, rear := 4000 }
     let l := [own 18 .held 1 5000, own 17 .wanted 2 9000, own 19 .wanted 3 14000]
     let t := (s 4500 l).occupy.1
     (s 4500 l).body = some b ∧ ClaimLaw l ∧ t.claim.list.map (fun e => (e.seg, e.tie)) = [(17, .route 0), (18, .route 1)] ∧
     t.fill.claim.list.map (·.seg) = [17, 18] ∧
     (road .run [18, 17, 19] 0 0 2000 [own 18 .held 0 0] .hoist).fill.claim.list.map (·.seg) = [18, 17, 19] ∧
     (s 4500 [own 17 .wanted 0 0, own 18 .wanted 1 5000]).occupy.1.claim.list = [own 17 .held 0 0, own 18 .wanted 1 5000]) :=
  ⟨by decide +kernel, ⟨by decide, by decide, by decide, by decide, by decide⟩, by decide +kernel, by decide +kernel,
   by decide +kernel, by decide +kernel⟩

/-- Room: an entry that begins at the front end; one that ends at the rear end, with none ahead; a DETACHED one, with
none ahead and none behind (R106). Segments 30 to 37 are absent and of length 0. -/
theorem wit_PromotionLaw_room :
    (let s (l : List Claim) : State := { case1 0 with claim := { (case1 0).claim with list := l } }
     let room (l : List Claim) (b : Body) := (((s l).makeRoom b).2.map (·.seg), heldIds ((s l).makeRoom b).1.claim.list)
     heldCount (eight 0 []) = 8 ∧
     room (eight 0 []) { front := 3500, rear := 2500 } = ([], [30, 31, 32, 33, 34, 35, 36]) ∧
     room (eight 0 []) { front := 3501, rear := 0 } = ([30], [31, 32, 33, 34, 35, 36, 37]) ∧
     room (eight 0 [2, 5]) { front := 3501, rear := -1 } = ([35], [30, 31, 32, 33, 34, 36, 37])) := by decide +kernel

def busy : State := { case1 2500 with pending := [.wheelPulse, .raceEnd] }

theorem claimLaw_case1 : ClaimLaw (case1 2500).claim.list := ⟨by decide, by decide, by decide, by decide, by decide⟩

theorem wit_ClaimLawKept : ClaimLaw (case1 2500).claim.list ∧ ClaimsFit (ownNothing (case1 2500)).1 :=
  ⟨claimLaw_case1, claimLaw_case1, by decide, by
    have h : ∀ e ∈ (case1 2500).claim.list, ∀ i < 3, e.tie = .route i →
        ∃ p ∈ (case1 2500).spans[i]?, p.seg = e.seg ∧ p.start = e.spanStart := by decide +kernel
    have k : ∀ e ∈ (case1 2500).claim.list, e.tie ∈ [Tie.route 0, .route 1, .route 2] := by decide
    intro e he i hi
    have h3 : i < 3 := by
      have := k e he
      simp [hi] at this
      omega
    exact h e he i h3 hi, by decide, by decide +kernel, by decide +kernel⟩

/-- The rear end at the release margin and 1 beyond it; a WANTED entry that ends at the rear end; a DETACHED entry that
begins at the front end; no body (R109, R111). -/
theorem wit_ClaimLawKept_release : cfg.body = none ∧ (onSecond 600 []).body = some { front := 6100, rear := 5100 } ∧
    [onSecond 600 [own 17 .held 0 0], onSecond 601 [own 17 .held 0 0], onSecond 500 [own 17 .wanted 0 0],
     onSecond 499 [own 17 .wanted 0 0], onSecond 500 [{ own 19 .held 0 6000 with tie := .detached }],
     onSecond 501 [{ own 19 .held 0 6000 with tie := .detached }]].map
      (fun s => (s.releaseBehind.1.claim.list.length, s.releaseBehind.2.length)) =
    [(1, 0), (0, 1), (0, 0), (1, 0), (0, 1), (1, 0)] := by decide +kernel

/-- Two HELD entries, the second ahead of the body, that a peer's held list meets. -/
def doubled (prec : Nat) (doubles : List (Nat × Nat)) : State :=
  let s := road .run [17, 18, 19] 1200 0 2500 [own 17 .held 0 0, own 18 .held 1 5000] .hoist
  { s with claim := { s.claim with prec := prec, doubles := doubles } }

/-- The entry ahead stands for the lower own key and gives way for the higher; a full record raises and keeps out; a pair
no longer named leaves; no body (R107, R108). -/
theorem wit_ClaimLawKept_doubles :
    (let p := peer 27 .fresh 0 20 [20] []
     ClaimLaw (doubled 2 []).claim.list ∧ ClaimLaw cfg.claim.list ∧ cfg.body = none ∧
     (doubled 2 []).ctl.state = .run ∧ (doubled 2 []).body = some { front := 3000, rear := 2000 } ∧
     (doubled 3 []).claim.list = [own 17 .held 0 0] ++ own 18 .held 1 5000 :: [] ∧
     (p.prec < (doubled 3 []).claim.prec ∧ (3000 : Int) ≤ (own 18 .held 1 5000).spanStart ∧ 20 ∈ yard.conflictSet 18) ∧
     [doubled 2 [], doubled 3 [], doubled 2 (List.replicate 16 (5, 17)), doubled 2 [(27, 17)]].map (fun s =>
       let t := (ownAccepted p s).1
       (heldIds t.claim.list, t.claim.doubles.length, t.flag .doubleHold)) =
     [([17, 18], 1, true), ([17], 0, false), ([17, 18], 16, true), ([17, 18], 1, true)]) :=
  ⟨⟨by decide, by decide, by decide, by decide, by decide⟩, ⟨by decide, by decide, by decide, by decide, by decide⟩, rfl, rfl,
   by decide +kernel, rfl, by decide +kernel, by decide +kernel⟩

/-- The route cut to 17 behind claims of 17, 18 and 19: all matched before; 18 ahead of the body released, under it kept as
DETACHED, behind it kept at the release margin and released 1 beyond; 19, WANTED, dropped (R110). -/
theorem wit_ClaimLawKept_route :
    (let l := [own 17 .held 0 0, own 18 .held 1 5000, own 19 .wanted 2 9000]
     let out (route : List Nat) (off : Nat) :=
       let r := ownRouteChange (road .run route 0 0 off l .hoist)
       (r.1.claim.list.map (fun e => (e.seg, decide (e.tie = .detached))), r.2.map (·.seg))
     out [17, 18, 19] 0 = ([(17, false), (18, false), (19, false)], []) ∧
     out [17] 4500 = ([(17, false)], [18]) ∧ out [17] 4501 = ([(17, false), (18, true)], []) ∧
     [(road .run [16] 0 0 9600 l .hoist), (road .run [16] 0 0 9601 l .hoist)].map (fun s =>
       let r := ownRouteChange s
       (r.1.claim.list.map (·.seg), r.2.map (·.seg))) = [([18], [17]), ([], [17, 18])]) := by decide +kernel

theorem wit_ClaimListInvariant : ClaimListLaw busy :=
  ⟨by decide, by decide, fun h => absurd h (by decide), nofun, by decide⟩

/-! ### The invariants' premises: a station on the road meets them, and steps -/

theorem wit_CapacityInvariant : WithinCapacity busy ∧ step busy = .next (after .wheelPulse { busy with pending := [.raceEnd] }) :=
  ⟨⟨by decide, by decide, by decide, by decide, by decide, by decide⟩, rfl⟩

theorem wit_PeersInvariant : PeersDistinct (withPeers [peer 27 .fresh 4 20 [] []] busy) :=
  ⟨by decide +kernel, by decide +kernel, nofun⟩

theorem wit_PermitInvariant : PermitLaw busy.recompute ∧ busy.recompute.guide.permit = true ∧ PermitLaw busy :=
  ⟨⟨fun _ => ⟨rfl, nofun, show 0 < busy.recompute.guide.ptl by decide +kernel⟩, fun h => absurd h (by decide +kernel), fun h => absurd h (by decide +kernel)⟩,
   by decide +kernel, ⟨fun h => absurd h (by decide +kernel), fun _ => by decide +kernel, fun h => absurd h (by decide +kernel)⟩⟩

theorem wit_PlaceInvariant : PlaceLaw busy :=
  ⟨⟨nofun, nofun⟩, nofun, fun i h => ⟨⟨17, .plus⟩, by cases h; rfl, by decide +kernel⟩⟩

theorem wit_MapInvariant : SealLaw busy ∧ TablesLaw busy.map ∧ busy.ctl.state ≠ .config ∧
    (∀ a b d, Instr.wheelPulse ≠ .powerOn a b d) ∧ (∀ a b, Instr.wheelPulse ≠ .resetLineRelease a b) ∧
    busy.pins.powerOnHeld = false :=
  ⟨⟨fun _ => by decide +kernel, nofun, fun _ => rfl⟩,
   ⟨by decide +kernel, by decide +kernel, by decide +kernel, by decide +kernel, by decide +kernel, by decide +kernel,
    by decide +kernel, by decide +kernel, by decide +kernel⟩, nofun, fun _ _ _ => nofun, fun _ _ => nofun, rfl⟩

theorem tuning_defaults_law : TuningLaw Config.tuningDefaults where
  size := by decide
  ranges := by
    have h : ∀ i < 47, ∀ r, Config.tuningTable[i]? = some r → r.lo ≤ r.dflt ∧ r.dflt ≤ r.hi := by decide +kernel
    intro i r v hr hv
    have hi : i < 47 := by
      by_contra hn
      rw [List.getElem?_eq_none (by rw [show Config.tuningTable.length = 47 from by decide]; omega)] at hr
      exact absurd hr nofun
    have : v = r.dflt := by
      simp only [Config.tuningDefaults, List.getElem?_map, hr, Option.map_some, Option.some.injEq] at hv
      exact hv.symm
    subst this
    exact h i hi r hr
  classes := by
    have h : ∀ i < 40, 32 ≤ i → ∀ v ∈ Config.tuningDefaults[i]?, v ≤ 600 := by decide +kernel
    intro i v hi hv
    simp only [isClassIndex, Bool.and_eq_true, decide_eq_true_eq] at hi
    have := h i (by omega) hi.1 v (by simp [hv])
    exact this

theorem wit_CeilingInvariant : CeilingLaw busy := ⟨tuning_defaults_law, by decide +kernel, fun _ => rfl⟩

end Sys2Proof.Tests
end

section
/-! PROOFS. Route clearing: ROUTE CLEAR at the Route Queue and at the port (03, R52). -/

namespace Sys2Proof.Machine

/-- JOINING and RUN are the states in which the station works (R170). -/
theorem StationState.works_iff (st : StationState) : st.works = true ↔ st = .joining ∨ st = .run := by
  cases st <;> simp [StationState.works]

/-- The route cut to its first entries, without a stop and with the arrival flag CLEAR. -/
def State.cutRoute (keep : Nat) (s : State) : State :=
  { s with route := { entries := s.route.entries.take keep, stop := none, armed := false } }

/-- Without a position ROUTE CLEAR empties the queue (R52). -/
theorem ownRouteClear_unplaced (s : State) (hq : s.pos.quality = .none) :
    ownRouteClear s = ((s.cutRoute 0).reportRoute, some (Reply.plain .done)) := by
  simp only [ownRouteClear, hq, State.cutRoute]

/-- With a position ROUTE CLEAR keeps the current entry and those behind it (R52). -/
theorem ownRouteClear_placed (s : State) (i : Nat) (hq : s.pos.quality ≠ .none) (hi : s.pos.index = some i) :
    ownRouteClear s = ((s.cutRoute (i + 1)).reportRoute, some (Reply.plain .done)) := by
  cases h : s.pos.quality with
  | none => exact absurd h hq
  | doubtful => simp only [ownRouteClear, h, hi, State.cutRoute]
  | good => simp only [ownRouteClear, h, hi, State.cutRoute]

/-- A route report leaves the guidance record current (R51, R133). -/
theorem State.reportRoute_current (s : State) : s.reportRoute.guide = s.reportRoute.guidance := State.guided_current _ s

/-- Outside JOINING and RUN, ROUTE CLEAR is refused and changes nothing (R52). -/
theorem exec_routeClear_refused (s : State) (h : PortFree s) (hst : ¬ (s.ctl.state = .joining ∨ s.ctl.state = .run)) :
    exec .routeClear s = .next (s.replied .refusedState []) := by
  have hnot : Cmd.takenIn .routeClear s.ctl.state = false :=
    Bool.eq_false_iff.mpr (mt (StationState.works_iff _).mp hst)
  rw [exec_free .routeClear .routeClear [] s h rfl, State.handOver_refused _ _ _ hnot]

/-- In JOINING and RUN the host gets the Route Queue's answer to ROUTE CLEAR: DONE on the cut route's report (R52). -/
theorem exec_routeClear_done (s : State) (keep : Nat) (h : PortFree s) (hst : s.ctl.state = .joining ∨ s.ctl.state = .run)
    (hown : ownRouteClear s = ((s.cutRoute keep).reportRoute, some (Reply.plain .done))) :
    exec .routeClear s = .next ((s.cutRoute keep).reportRoute.replied .done []) := by
  have htaken : Cmd.takenIn .routeClear s.ctl.state = true := (StationState.works_iff _).mpr hst
  rw [exec_taken .routeClear .routeClear [] s h rfl htaken, Cmd.run, hown, State.queueReply_some, Reply.plain]

/-- Settles O28: the port hands ROUTE CLEAR to the Route Queue in JOINING and RUN only, and the Route Queue's answer is
read off with and without a position. -/
theorem routeClear : Obligations.RouteClear := by
  intro s hfree
  refine ⟨exec_routeClear_refused s hfree, fun hst keep hkeep => ⟨?done, ?current, ?frame⟩⟩
  case done =>
    refine exec_routeClear_done s keep hfree hst ?_
    obtain ⟨hq, rfl⟩ | ⟨hq, i, hi, rfl⟩ := hkeep
    · exact ownRouteClear_unplaced s hq
    · exact ownRouteClear_placed s i hq hi
  case current => exact State.reportRoute_current _
  case frame => exact State.reportRoute_frame _

end Sys2Proof.Machine
end

section
/-! PROOFS. CLEAR PEER: the removal of an entry and the end of saturation, at the Peer View and at the port (05, R84, R90,
R91, R93). -/

namespace Sys2Proof.Machine

/-- The claim unit with the saturation suspension set. -/
def State.setSuspension (on : Bool) (s : State) : State := { s with claim := { s.claim with satSuspension := on } }

theorem ownSaturation_fst (on : Bool) (s : State) : (ownSaturation on s).1 = s.setSuspension on := rfl

/-- What a report may change is apart from the suspension: setting the suspension before and after it keeps the frame. -/
theorem ReportFrame.setSuspension {s t : State} (on : Bool) (h : ReportFrame s t) :
    ReportFrame (s.setSuspension on) (t.setSuspension on) where
  clock := h.clock
  pins := h.pins
  map := h.map
  odo := h.odo
  peers := h.peers
  bays := h.bays
  load := h.load
  ctl := h.ctl
  pending := h.pending
  pos := h.pos
  link := h.link
  sched := h.sched
  port := h.port
  flags := h.flags
  prec := h.prec
  suspension := rfl
  clash := h.clash
  stop := h.stop
  armed := h.armed
  consumed := h.consumed

/-- The report of the end of saturation turns the suspension OFF when there was one, and else makes no report (R90, R104). -/
theorem State.reportSaturationEnd_frame (was : Bool) (s : State) :
    ReportFrame (s.setSuspension (if was then false else s.claim.satSuspension)) (s.reportSaturationEnd was) := by
  cases was with
  | false => exact ReportFrame.refl s
  | true => exact ownSaturation_fst false s ▸ s.claimOnly_frame (ownSaturation false) true

/-- A removal reports twice, of the removal and of the end of saturation; the two frames compose (R93). -/
theorem State.removalReports_frame (id : Nat) (was : Bool) (s : State) :
    ReportFrame (s.setSuspension (if was then false else s.claim.satSuspension))
      ((s.reportRemoval id).reportSaturationEnd was) := by
  have hremoved : ReportFrame s (s.reportRemoval id) := s.reportRemoval_frame id
  have hended := (s.reportRemoval id).reportSaturationEnd_frame was
  rw [hremoved.suspension] at hended
  exact (hremoved.setSuspension _).trans hended

/-- A lookup succeeds exactly for the ids that entries carry (R78). -/
theorem PeerView.find_isSome_iff (v : PeerView) (id : Nat) : (v.find id).isSome = true ↔ ∃ p ∈ v.entries, p.id = id := by
  simp [PeerView.find, List.find?_isSome]

/-- CLEAR PEER at its owner, for an id that an entry carries (R91). -/
theorem ownClearPeer_known (id : Nat) (s : State) (h : ∃ p ∈ s.peers.entries, p.id = id) :
    ownClearPeer [id] s = (s.removePeer id, some (Reply.plain .done)) :=
  if_pos ((s.peers.find_isSome_iff id).mpr h)

/-- CLEAR PEER at its owner, for an id that no entry carries (R91). -/
theorem ownClearPeer_unknown (id : Nat) (s : State) (h : ∀ p ∈ s.peers.entries, p.id ≠ id) :
    ownClearPeer [id] s = s.refuse .refusedValue :=
  if_neg fun hsome =>
    let ⟨p, hp, hid⟩ := (s.peers.find_isSome_iff id).mp hsome
    h p hp hid

/-- Outside JOINING and RUN, CLEAR PEER is refused and changes nothing (R91, R170). -/
theorem exec_clearPeer_refused (s : State) (id : Nat) (h : PortFree s)
    (hst : ¬ (s.ctl.state = .joining ∨ s.ctl.state = .run)) :
    exec (.clearPeer id) s = .next (s.replied .refusedState []) := by
  have hnot : Cmd.takenIn .clearPeer s.ctl.state = false :=
    Bool.eq_false_iff.mpr (mt (StationState.works_iff _).mp hst)
  rw [exec_free (.clearPeer id) .clearPeer [id] s h rfl, State.handOver_refused _ _ _ hnot]

/-- In JOINING and RUN the host gets the Peer View's answer to CLEAR PEER (R91, R165). -/
theorem exec_clearPeer_answered (s t : State) (id : Nat) (r : Reply) (h : PortFree s)
    (hst : s.ctl.state = .joining ∨ s.ctl.state = .run) (hown : ownClearPeer [id] s = (t, some r)) :
    exec (.clearPeer id) s = .next (t.replied r.status r.data) := by
  have htaken : Cmd.takenIn .clearPeer s.ctl.state = true := (StationState.works_iff _).mpr hst
  rw [exec_taken (.clearPeer id) .clearPeer [id] s h rfl htaken, Cmd.run, hown, State.queueReply_some]

/-- Settles O32: the port hands CLEAR PEER to the Peer View in JOINING and RUN only; the Peer View's answer is read off for a
known and an unknown id, and the frame of the removal is that of its two reports composed. -/
theorem clearPeer : Obligations.ClearPeer := by
  intro s id hfree
  refine ⟨exec_clearPeer_refused s id hfree, fun hst hnone => ?unknown, fun hst hsome => ⟨?done, ?frame⟩, ?broken⟩
  case unknown => exact exec_clearPeer_answered s s id (Reply.plain .refusedValue) hfree hst (ownClearPeer_unknown id s hnone)
  case done =>
    exact exec_clearPeer_answered s (s.removePeer id) id (Reply.plain .done) hfree hst (ownClearPeer_known id s hsome)
  case frame => exact State.removalReports_frame id s.peers.saturation.isSome _
  case broken => rfl

end Sys2Proof.Machine
end

section
/-! PROOFS. The command port: the states in which a command is taken, and the receive buffer with its RX_OVERRUN
indication (11, R168, R170). -/

namespace Sys2Proof.Machine

/-! ### The states in which a command is taken (R170) -/

theorem StationState.isConfig_iff (st : StationState) : st.isConfig = true ↔ st = .config := by
  cases st <;> simp [StationState.isConfig]

/-- CONFIG and OFF-LINE are the states in which START is taken (R170). -/
theorem StationState.starts_iff (st : StationState) : st.starts = true ↔ st = .config ∨ st = .offLine := by
  cases st <;> simp [StationState.starts]

/-- The rows of R170's table: the commands of CONFIG, START, the commands of JOINING and RUN, those of every state. -/
theorem Cmd.takenIn_iff (c : Cmd) (st : StationState) : c.takenIn st = true ↔
    (c ∈ [Cmd.setStation, .setTuning, .mapWindow, .mapSegment, .mapSeal, .mapClear, .tagWindow, .tagWrite, .windowWrite,
          .craneList] ∧ st = .config) ∨
    (c = .start ∧ (st = .config ∨ st = .offLine)) ∨
    (c ∈ [Cmd.setPosition, .route, .routeClear, .setLoad, .setPriority, .bayControl, .stillControl, .clearPeer, .leave] ∧
      (st = .joining ∨ st = .run)) ∨
    c ∈ [Cmd.restart, .readStatus, .readGuidance, .readPosition, .readRoute, .readClaims, .readPeer, .readBays,
         .readCounters, .readEvents] := by
  cases c
  case setStation | setTuning | mapWindow | mapSegment | mapSeal | mapClear | tagWindow | tagWrite | windowWrite | craneList =>
    simpa [Cmd.takenIn] using st.isConfig_iff
  case start => simpa [Cmd.takenIn] using st.starts_iff
  case setPosition | route | routeClear | setLoad | setPriority | bayControl | stillControl | clearPeer | leave =>
    simpa [Cmd.takenIn] using st.works_iff
  case restart | readStatus | readGuidance | readPosition | readRoute | readClaims | readPeer | readBays | readCounters
      | readEvents =>
    simp [Cmd.takenIn]

/-- A row that is a command, at a free port in a state that does not take it, is refused and changes nothing (R170). -/
theorem exec_refused (i : Instr) (c : Cmd) (vals : List Nat) (s : State) (h : PortFree s) (hc : commandOf i = some (c, vals))
    (hnot : c.takenIn s.ctl.state = false) : exec i s = .next (s.replied .refusedState []) := by
  rw [exec_free i c vals s h hc, State.handOver_refused _ _ _ hnot]

/-- Settles O10: a row at a free port is the hand-over of its command, the hand-over tests the state before the owner, and
the test is the table's. -/
theorem commandsByState : Obligations.CommandsByState :=
  ⟨fun i c vals s hfree hc => ⟨exec_taken i c vals s hfree hc, exec_refused i c vals s hfree hc⟩,
   fun c vals s => ⟨State.handOver_taken c vals s, State.handOver_refused c vals s⟩,
   Cmd.takenIn_iff⟩

/-! ### The receive buffer and RX_OVERRUN (R168) -/

/-- A part that is not held in reset runs its row (R154). -/
theorem State.unlessHeld_running (k : State → State) (s : State) (h : s.pins.resetHeld = false) : s.unlessHeld k = k s := by
  simp [State.unlessHeld, h]

/-- A byte received while the buffer has room joins its back (R168). -/
theorem State.hostByte_room (b : Byte) (s : State) (h : s.port.rx.length < 64) :
    s.hostByte b = s.setPort { s.port with rx := s.port.rx ++ [b] } := if_pos h

/-- A byte received while the buffer is full is dropped, and RX_OVERRUN is set (R168). -/
theorem State.hostByte_full (b : Byte) (s : State) (h : 64 ≤ s.port.rx.length) :
    s.hostByte b = s.setPort { s.port with overrun := true } := if_neg (Nat.not_lt.mpr h)

/-- A waiting reply with room for the whole of it is placed, and takes the indications with it (R167, R168, R169). -/
theorem CommandPort.placeOne_room (p : CommandPort) (r : Reply) (rest : List Reply) (hw : p.waiting = r :: rest)
    (hroom : (p.placed.map List.length).sum + r.data.length + 1 ≤ 512) :
    p.placeOne = { p with waiting := rest, placed := p.placed ++ [p.bytesOf r], overrun := false, stray := false } := by
  have hfits : p.held + (r.data.length + 1) ≤ Config.replyBufferCapacity := hroom
  simp only [CommandPort.placeOne, hw, if_pos hfits]

/-- A status takes the low four bits of a reply byte (R180). -/
theorem Status.code_lt (st : Status) : st.code < 16 := by
  cases st <;> decide

/-- Bit 4 of a reply byte is RX_OVERRUN: the status stands below it, STRAY above (R168, R180). -/
theorem replyByte_bit_four (st : Status) (overrun stray : Bool) : (replyByte st overrun stray).getLsbD 4 = overrun := by
  have hcode := st.code_lt
  rw [replyByte, BitVec.getLsbD_ofNat, Nat.testBit_eq_decide_div_mod_eq]
  cases overrun <;> cases stray <;> simp <;> omega

/-- Settles O6: a byte joins the buffer or sets the indication by the buffer's length, and the reply placed next carries
the indication and clears it. -/
theorem hostByteArrives : Obligations.HostByteArrives := by
  intro s b hrun
  have harrival : exec (.hostByteArrival b) s = .next (s.hostByte b) := congrArg _ (State.unlessHeld_running _ s hrun)
  have hplace : exec .replyPlace s = .next s.replyPlace := congrArg _ (State.unlessHeld_running _ s hrun)
  refine ⟨fun hlen => ?joins, fun hlen => ?dropped, fun r rest hw hroom => ?carried⟩
  case joins => rw [harrival, State.hostByte_room b s hlen, State.setPort]
  case dropped => rw [harrival, State.hostByte_full b s hlen, State.setPort]
  case carried =>
    have hport := CommandPort.placeOne_room s.port r rest hw hroom
    exact ⟨s.replyPlace, replyByte r.status s.port.overrun s.port.stray, hplace, congrArg CommandPort.placed hport,
      replyByte_bit_four _ _ _, congrArg CommandPort.overrun hport⟩

end Sys2Proof.Machine
end

section
/-! PROOFS. What a row is made of: every row of the table but the reset rows is a chain of acts of single blocks, with
RESTART's reset after it where the last reply has left (95_what_each_step_holds.md). The invariants are proved act by act. -/

namespace Sys2Proof.Machine

/-! ### The acts -/

/-- A change beside the laws: none of the fields they speak of, but for the three buffers, which stay within capacity. -/
structure Aside (s t : State) : Prop where
  pending : t.pending = s.pending
  map : t.map = s.map
  entries : t.route.entries = s.route.entries
  index : t.pos.index = s.pos.index
  offset : t.pos.offset = s.pos.offset
  quality : t.pos.quality = s.pos.quality
  peers : t.peers.entries = s.peers.entries
  list : t.claim.list = s.claim.list
  doubles : t.claim.doubles = s.claim.doubles
  guide : t.guide = s.guide
  line : t.line = s.line
  ctl : t.ctl = s.ctl
  queue : s.link.queue.length ≤ Config.receiveQueueCapacity → t.link.queue.length ≤ Config.receiveQueueCapacity
  rx : s.port.rx.length ≤ Config.receiveBufferCapacity → t.port.rx.length ≤ Config.receiveBufferCapacity
  replies : s.port.held ≤ Config.replyBufferCapacity → t.port.held ≤ Config.replyBufferCapacity

theorem Aside.refl (s : State) : Aside s s :=
  ⟨rfl, rfl, rfl, rfl, rfl, rfl, rfl, rfl, rfl, rfl, rfl, rfl, id, id, id⟩

/-- The effects of its own that an event of the Claim Unit has in step 1 of R99. -/
inductive OwnEffect : (State → State × List Claim) → Prop
  | nothing : OwnEffect ownNothing
  | advertise (wanted : List Nat) : OwnEffect (ownAdvertise wanted)
  | accepted (p : Peer) : OwnEffect (ownAccepted p)
  | removal (id : Nat) : OwnEffect (ownRemoval id)
  | saturation (on : Bool) : OwnEffect (ownSaturation on)
  | clash : OwnEffect ownClash
  | seed : OwnEffect ownSeed
  | start : OwnEffect ownStart
  | routeChange : OwnEffect ownRouteChange
  | leaving : OwnEffect ownLeaving

/-- What a map command may make of the map in CONFIG (R6, R8, R9, R11, R12, R16). -/
inductive MapWrite (m : MapStore) : MapStore → Prop
  | segWindow (c : Cursor) (h : c.last ≤ m.segCursor.last ∨ c.last ≤ 1022) : MapWrite m { m with segCursor := c }
  | tagWindow (c : Cursor) (h : c.last ≤ m.tagCursor.last ∨ c.last ≤ 511) : MapWrite m { m with tagCursor := c }
  | winMiss (c : Cursor) (h : c.last = m.winCursor.last) : MapWrite m { m with winCursor := c }
  | segment (g : Segment) (h : m.segCursor.past = false) : MapWrite m (m.writeSegment g)
  | tag (t : Tag) (h : m.tagCursor.past = false) : MapWrite m (m.writeTag t)
  | window (w : SlowWindow) (h : m.winCursor.past = false) : MapWrite m (m.writeWindow w)
  | cranes (ids : List Nat) : MapWrite m { m with cranes := ids, isSealed := false }
  | walk (h : m.isSealed = false) : MapWrite m { m with sealing := true }
  | clear : MapWrite m .powerOn

/-- What one block does at a time. -/
inductive Act : State → State → Prop
  | aside {s t : State} (h : Aside s t) : Act s t
  | periodBegin (s : State) : Act s s.periodBegin
  | widthEnd (s : State) : Act s s.widthEnd
  | resetAssert (s : State) : Act s s.resetAssert
  | mapWrite (s : State) (m : MapStore) (b : BayTable) (hc : s.ctl.state = .config) (h : MapWrite s.map m) :
      Act s { s with map := m, bays := b }
  | walkEnd (s : State) (h : s.map.sealing = true) : Act s s.sealWalkEnd.1
  | station (s : State) (id : Nat) (o : Orientation) (hc : s.ctl.state = .config) :
      Act s (s.setCtl { s.ctl with id := id, orientation := o })
  | tuning (s : State) (i : Nat) (r : Int × Int) (v : Int) (hc : s.ctl.state = .config)
      (hr : tuningRange s.ctl.tuning i = some r) :
      Act s (s.setCtl { s.ctl with tuning := storeTuning s.ctl.tuning i (clampTo r v) })
  | credit (s : State) : Act s s.credit
  | coreFix (s : State) (h : s.centre.isSome = true) : Act s s.coreFix
  | acceptFix (s : State) (fix : Int) (hc : s.ctl.state ≠ .config) : Act s (s.acceptFix fix)
  | rejectFix (s : State) (err : Option Int) : Act s (s.rejectFix err)
  | seed (s : State) (seg off : Nat) (sign : Sign) (hc : s.ctl.state ≠ .config) : Act s (s.seed seg off sign)
  | route (s : State) (r : RouteQueue)
      (hl : s.route.entries.length ≤ Config.routeCapacity → r.entries.length ≤ Config.routeCapacity)
      (hk : s.pos.quality ≠ .none → ∀ i e, s.pos.index = some i → s.route.entries[i]? = some e → r.entries[i]? = some e) :
      Act s { s with route := r }
  | peers (s : State) (v : PeerView) (he : s.ctl.state = .config → s.peers.entries = [] → v.entries = [])
      (hd : (s.peers.entries.map (·.id)).Nodup → (v.entries.map (·.id)).Nodup)
      (ho : (∀ p ∈ s.peers.entries, p.id ≠ s.ctl.id) → ∀ p ∈ v.entries, p.id ≠ s.ctl.id)
      (hl : s.peers.entries.length ≤ Config.peerCapacity → v.entries.length ≤ Config.peerCapacity) : Act s (s.setPeers v)
  | report (s : State) (own : State → State × List Claim) (exam : Bool) (h : OwnEffect own) : Act s (s.claimOnly own exam)
  | guided (s : State) (own : State → State × List Claim) (h : OwnEffect own) :
      Act s (s.guided (fun t => (claimEvent own true t).1))
  | reportPosition (s : State) : Act s s.reportPosition
  | reportRoute (s : State) : Act s s.reportRoute
  | recompute (s : State) : Act s s.recompute
  | enter (s : State) (st : StationState) (timer : Option Nat) (hr : s.ctl.state ≠ .run) (hst : st = .joining ∨ st = .run)
      (hm : s.ctl.state = .config → s.map.isSealed = true) : Act s (s.setCtl { s.ctl with state := st, joinTimer := timer })
  | depart (s : State) (hc : s.ctl.state ≠ .config) :
      Act s ((s.setCtl { s.ctl with state := .leaving, joinTimer := none }).guided (fun t => (claimEvent ownLeaving true t).1))
  | offLine (s : State) (h : s.ctl.state = .leaving) : Act s (s.setCtl { s.ctl with state := .offLine }).recompute

/-- A chain of acts. -/
abbrev Acts : State → State → Prop := Relation.ReflTransGen Act

theorem Act.acts {s t : State} (h : Act s t) : Acts s t := .single h

theorem Aside.acts {s t : State} (h : Aside s t) : Acts s t := (Act.aside h).acts

/-- A predicate that every act keeps is kept by a chain of them. -/
theorem Acts.keep {P : State → Prop} (hP : ∀ s t, Act s t → P s → P t) {s t : State} (h : Acts s t) (hs : P s) : P t := by
  induction h with
  | refl => exact hs
  | tail _ hact ih => exact hP _ _ hact ih

/-! ### Acts beside the laws -/

/-- A change of the port that keeps its two buffers within capacity. -/
theorem Aside.setPort (s : State) (p : CommandPort)
    (hrx : s.port.rx.length ≤ Config.receiveBufferCapacity → p.rx.length ≤ Config.receiveBufferCapacity)
    (hheld : s.port.held ≤ Config.replyBufferCapacity → p.held ≤ Config.replyBufferCapacity) : Aside s (s.setPort p) :=
  { Aside.refl s with rx := hrx, replies := hheld }

theorem Aside.setPort_same (s : State) (p : CommandPort) (hrx : p.rx = s.port.rx) (hpl : p.placed = s.port.placed) :
    Aside s (s.setPort p) :=
  Aside.setPort s p (by rw [hrx]; exact id) (by simp [CommandPort.held, hpl])

theorem Aside.raise (e : Event) (s : State) : Aside s (s.raise e) := Aside.setPort_same s _ rfl rfl

theorem Aside.raiseIf (c : Bool) (e : Event) (s : State) : Aside s (s.raiseIf c e) := by
  cases c
  · exact Aside.refl s
  · exact Aside.raise e s

theorem Aside.queueReply (r : Option Reply) (s : State) : Aside s (s.queueReply r) := Aside.setPort_same s _ rfl rfl

theorem Aside.reach (d : Nat) (s : State) : Aside s (s.reach d) := { Aside.refl s with }

theorem Aside.odo (o : Odometry) (s : State) : Aside s { s with odo := o } := { Aside.refl s with }

theorem Aside.sched (c : Scheduler) (s : State) : Aside s { s with sched := c } := { Aside.refl s with }

theorem Aside.link (l : LinkPort) (s : State) (h : l.queue.length ≤ s.link.queue.length) : Aside s { s with link := l } :=
  { Aside.refl s with queue := h.trans }

theorem Aside.pins (p : Pins) (s : State) : Aside s { s with pins := p } := { Aside.refl s with }

theorem Aside.bays (b : BayTable) (s : State) : Aside s { s with bays := b } := { Aside.refl s with }

/-- A change of the position record beside the place and its quality. -/
theorem Aside.pos (p : Position) (s : State) (hi : p.index = s.pos.index) (ho : p.offset = s.pos.offset)
    (hq : p.quality = s.pos.quality) : Aside s { s with pos := p } :=
  { Aside.refl s with index := hi, offset := ho, quality := hq }

/-- A change of the Claim Unit beside the list and the double-hold record. -/
theorem Aside.claim (c : ClaimUnit) (s : State) (hl : c.list = s.claim.list) (hd : c.doubles = s.claim.doubles) :
    Aside s { s with claim := c } :=
  { Aside.refl s with list := hl, doubles := hd }

theorem Aside.trans {s t u : State} (h : Aside s t) (k : Aside t u) : Aside s u where
  pending := k.pending.trans h.pending
  map := k.map.trans h.map
  entries := k.entries.trans h.entries
  index := k.index.trans h.index
  offset := k.offset.trans h.offset
  quality := k.quality.trans h.quality
  peers := k.peers.trans h.peers
  list := k.list.trans h.list
  doubles := k.doubles.trans h.doubles
  guide := k.guide.trans h.guide
  line := k.line.trans h.line
  ctl := k.ctl.trans h.ctl
  queue := k.queue ∘ h.queue
  rx := k.rx ∘ h.rx
  replies := k.replies ∘ h.replies

/-! ### Position, motion and the reader line as acts (chapter 2) -/

theorem State.reportIf_acts (c : Bool) (s : State) : Acts s (s.reportIf c) := by
  cases c
  · exact .refl
  · exact (Act.reportPosition s).acts

theorem Aside.updateMotion (s : State) : Aside s s.updateMotion := Aside.pos _ s rfl rfl rfl

theorem State.followMotion_acts (s : State) : Acts s s.followMotion :=
  (Aside.updateMotion s).acts.trans (State.reportIf_acts _ _)

theorem State.raceEnd_acts (s : State) : Acts s s.raceEnd := by
  unfold State.raceEnd
  dsimp only
  generalize hs0 : (if s.odo.racePulseLimit ≤ s.odo.racePulses then s else s.reach s.odo.ticksDue) = s0
  have h0 : Aside s s0 := by
    rw [← hs0]
    split
    · exact Aside.refl s
    · exact Aside.reach _ s
  have h1 := h0.trans ((Aside.odo { s0.odo with speed := raceSpeed s0.odo.racePulses s0.pulseLength s0.raceTicks } s0).trans
    (Aside.pos { s0.pos with stillCount := s0.stillCountNext } _ rfl rfl rfl))
  refine (h1.trans (Aside.updateMotion _)).acts.trans ?_
  refine Relation.ReflTransGen.trans ?_ (State.reportIf_acts _ _)
  split
  · exact ((Aside.odo _ _).trans (Aside.odo _ _)).acts
  · exact (Act.credit _).acts.trans (Aside.odo _ _).acts

theorem State.directionChange_acts (s : State) : Acts s s.directionChange := by
  unfold State.directionChange
  split
  · exact .refl
  · exact (((Aside.reach _ s).acts.trans (Act.credit _).acts).trans (Aside.odo _ _).acts).trans (Act.reportPosition _).acts

theorem State.directionLevel_acts (s : State) : Acts s s.directionLevel := by
  have hflip : ∀ u : State, Aside u u.flipWdir := fun u => Aside.pins _ u
  unfold State.directionLevel
  split
  · exact (hflip s).acts
  · refine Relation.ReflTransGen.trans ?_ ((hflip _).trans (Aside.odo _ _)).acts
    split
    · exact s.directionChange_acts
    · exact .refl

theorem State.creditReported_acts (s : State) : Acts s s.creditReported :=
  (Act.credit s).acts.trans (State.reportIf_acts _ _)

theorem State.decideFix_acts (fix : Int) (s : State) (hc : s.ctl.state ≠ .config) : Acts s (s.decideFix fix) := by
  unfold State.decideFix
  split
  · exact (Act.acceptFix s fix hc).acts
  · rename_i c hcentre
    dsimp only
    split
    · exact (Act.coreFix s (by simp [hcentre])).acts
    · split
      · exact (Act.acceptFix s fix hc).acts
      · split
        · exact (Act.acceptFix s fix hc).acts
        · exact (Act.rejectFix s _).acts

theorem State.takeFix_acts (tagId : Nat) (off : Int) (s : State) (hc : s.ctl.state ≠ .config) :
    Acts s (s.takeFix tagId off) := by
  unfold State.takeFix
  split
  · exact Aside.acts (Aside.pos _ s rfl rfl rfl)
  · refine Relation.ReflTransGen.trans ?_ (State.reportIf_acts _ _)
    split
    · exact s.decideFix_acts _ hc
    · exact (Act.rejectFix s none).acts

/-- A fall of the quality touches the position and the flags (R25, R33, R35). -/
theorem State.dropQuality_eq (c : Bool) (s : State) :
    s.dropQuality c = { s with pos := (s.dropQuality c).pos, port := (s.dropQuality c).port } := by
  unfold State.dropQuality
  split <;> rfl

theorem State.raiseIf_eq (c : Bool) (e : Event) (s : State) : s.raiseIf c e = { s with port := (s.raiseIf c e).port } := by
  cases c <;> rfl

/-- A credit touches the position, the odometry and the flags (R20). -/
theorem State.moveCentre_eq (cm : Nat) (s : State) : s.moveCentre cm =
    { s with pos := (s.moveCentre cm).pos, odo := (s.moveCentre cm).odo, port := (s.moveCentre cm).port } := by
  unfold State.moveCentre
  split
  · rfl
  · dsimp only
    rw [State.dropQuality_eq, State.raiseIf_eq]

theorem State.credit_eq (s : State) :
    s.credit = { s with pos := s.credit.pos, odo := s.credit.odo, port := s.credit.port } := by
  unfold State.credit
  split
  · rfl
  · dsimp only
    split
    · rfl
    · rw [State.moveCentre_eq]

theorem State.credit_ctl (s : State) : s.credit.ctl = s.ctl := (congrArg State.ctl s.credit_eq :)

theorem State.creditReported_ctl (s : State) : s.creditReported.ctl = s.ctl :=
  (s.creditReported_frame.ctl).trans s.credit_ctl

theorem State.takeRead_acts (tagId : Nat) (off : Int) (s : State) (hc : s.ctl.state ≠ .config) :
    Acts s (s.takeRead tagId off) :=
  s.creditReported_acts.trans (State.takeFix_acts tagId off _ (by rwa [State.creditReported_ctl]))

theorem State.hunt_acts (b : Byte) (s : State) : Acts s (s.hunt b) := by
  unfold State.hunt
  split <;> exact (Aside.pins _ s).acts

theorem State.endRead_acts (bytes : List Byte) (s : State) : Acts s (s.endRead bytes) := by
  unfold State.endRead
  split
  · split
    · split
      · exact .refl
      · rename_i hc
        exact s.takeRead_acts _ _ hc
    · exact .refl
  · exact .refl

theorem State.readerByte_acts (b : Byte) (s : State) : Acts s (s.readerByte b) := by
  unfold State.readerByte
  split
  · exact s.hunt_acts b
  · split
    · exact s.hunt_acts b
    · split
      · exact (Aside.pins _ s).acts
      · exact (Aside.pins _ s).acts.trans (State.endRead_acts _ _)

theorem State.tagRead_acts (b1 b2 b3 b4 b5 : Byte) (s : State) : Acts s (s.tagRead b1 b2 b3 b4 b5) :=
  ((((s.readerByte_acts b1).trans (State.readerByte_acts b2 _)).trans (State.readerByte_acts b3 _)).trans
    (State.readerByte_acts b4 _)).trans (State.readerByte_acts b5 _)

theorem State.gapTimeout_acts (s : State) : Acts s s.gapTimeout := by
  unfold State.gapTimeout
  split
  · exact .refl
  · exact ((Aside.reach _ s).trans (Aside.pins _ _)).acts

/-! ### The yard link and its timers as acts (chapter 4) -/

theorem Aside.spendSequence (s : State) : Aside s s.spendSequence := Aside.sched _ s

theorem Aside.placeNotice (n : Notice) (s : State) : Aside s (s.placeNotice n) := Aside.link _ s le_rfl

theorem Aside.buildPosition (s : State) : Aside s s.buildPosition :=
  (Aside.spendSequence s).trans (Aside.placeNotice _ _)

theorem Aside.buildLeave (s : State) : Aside s s.buildLeave := (Aside.spendSequence s).trans (Aside.placeNotice _ _)

theorem State.frameArrival_acts (f : List Byte) (s : State) : Acts s (s.frameArrival f) := by
  unfold State.frameArrival
  split
  · exact .refl
  · split
    · exact Aside.acts (Aside.link _ s le_rfl)
    · refine (Aside.trans (t := { s with link := s.link.countIn.offer f }) ?_ (Aside.sched _ _)).acts
      have hlen : s.link.queue.length ≤ Config.receiveQueueCapacity →
          (s.link.countIn.offer f).queue.length ≤ Config.receiveQueueCapacity := by
        intro h
        unfold LinkPort.offer
        split
        · rename_i hlt
          simpa using hlt
        · exact h
      exact { Aside.refl s with queue := hlen }

theorem State.startOfSend_acts (s : State) : Acts s s.startOfSend := by
  unfold State.startOfSend
  split
  · exact .refl
  · dsimp only
    have hslot : Aside s { s with link := s.link.takeSlot } := Aside.link _ s le_rfl
    split
    · exact (hslot.trans (Aside.sched _ _)).acts.trans (Act.report _ _ _ (.advertise _)).acts
    · refine (hslot.trans (Aside.sched { s.sched with leaveCount := s.sched.leaveCount + 1 } _)).acts.trans ?_
      unfold State.leaveTaken
      dsimp only
      split
      · rename_i h
        exact (Aside.sched _ _).acts.trans
          (Act.offLine { s with link := s.link.takeSlot, sched := { s.sched with leaveCount := s.sched.leaveCount + 1, guard := none } } h.1).acts
      · exact .refl
    · exact hslot.acts

theorem State.cadenceExpiry_acts (s : State) : Acts s s.cadenceExpiry := by
  unfold State.cadenceExpiry
  split
  · exact .refl
  · exact (((Aside.reach _ s).trans (Aside.buildPosition _)).trans (Aside.sched _ _)).acts

theorem State.guardExpiry_acts (s : State) : Acts s s.guardExpiry := by
  have hbuild : ∀ u : State, Aside u ((u.setPendingNotice false).buildPosition).startGuard := fun u =>
    ((Aside.sched _ u).trans (Aside.buildPosition _)).trans (Aside.sched _ _)
  have hleave : ∀ u : State, Aside u u.buildLeave.startGuard := fun u => (Aside.buildLeave u).trans (Aside.sched _ _)
  have hstop : ∀ u : State, Aside u u.stopGuard := fun u => Aside.sched _ u
  unfold State.guardExpiry
  split
  · exact .refl
  · rename_i due _
    refine (Aside.reach due s).acts.trans ?_
    dsimp only
    cases s.ctl.state
    case joining | run =>
      dsimp only
      split
      · exact (hbuild _).acts
      · exact (hstop _).acts
    case leaving =>
      dsimp only
      split
      · exact (hleave _).acts
      · exact (hstop _).acts
    case config | offLine => exact (hstop _).acts

theorem State.windowClose_acts (s : State) : Acts s s.windowClose := by
  unfold State.windowClose
  split
  · exact .refl
  · exact ((Aside.reach _ s).trans (Aside.sched _ _)).acts

/-! ### The Peer View as acts (chapter 5) -/

/-- Rewriting a station's entry keeps the ids of the table. -/
theorem PeerView.update_ids (p : Peer) (v : PeerView) : (v.update p).entries.map (·.id) = v.entries.map (·.id) := by
  simp only [PeerView.update, List.map_map]
  refine List.map_congr_left fun q _ => ?_
  simp only [Function.comp_apply]
  split
  · rename_i h
    exact h.symm
  · rfl

/-- A table whose ids are those of the one before, or fewer of them, keeps the laws on ids. -/
theorem Act.peers_sublist (s : State) (v : PeerView) (h : (v.entries.map (·.id)).Sublist (s.peers.entries.map (·.id))) :
    Act s (s.setPeers v) := by
  refine Act.peers s v (fun _ he => ?_) (fun hn => hn.sublist h) (fun ho p hp => ?_) (fun hl => ?_)
  · simpa [he] using h
  · obtain ⟨q, hq, hid⟩ := List.mem_map.mp (h.subset (List.mem_map_of_mem hp))
    exact hid ▸ ho q hq
  · have := h.length_le
    simp only [List.length_map] at this
    exact this.trans hl

theorem Act.updatePeer (s : State) (p : Peer) : Act s (s.setPeers (s.peers.update p)) :=
  Act.peers_sublist s _ (by rw [PeerView.update_ids])

theorem State.agePeer_acts (p : Peer) (st : PeerStatus) (s : State) :
    Acts s (s.agePeer p st) :=
  (Act.updatePeer s _).acts.trans (Act.report _ _ _ .nothing).acts

theorem State.reportSaturationEnd_acts (was : Bool) (s : State) : Acts s (s.reportSaturationEnd was) := by
  cases was
  · exact .refl
  · exact (Act.report s _ _ (.saturation false)).acts

theorem State.removePeer_acts (id : Nat) (s : State) : Acts s (s.removePeer id) := by
  have hrem : Act s (s.setPeers { s.peers.without id with saturation := none }) :=
    Act.peers_sublist s _ (List.filter_sublist.map _)
  exact (hrem.acts.trans (Act.report _ _ _ (.removal id)).acts).trans (State.reportSaturationEnd_acts _ _)

theorem State.unenterable_acts (s : State) : Acts s s.unenterable := by
  have hset : Act s (s.setPeers { s.peers with saturation := some (s.after s.lostTime) }) :=
    Act.peers_sublist s _ (List.Sublist.refl _)
  unfold State.unenterable
  dsimp only
  split
  · exact hset.acts
  · exact (hset.acts.trans (Aside.raise _ _).acts).trans (Act.report _ _ _ (.saturation true)).acts

/-- The candidate of an eviction is an entry of the table (R88). -/
theorem State.candidate_mem (s : State) (l : List Peer) (out : Peer) (h : s.candidate l = some out) : out ∈ l := by
  induction l generalizing out with
  | nil => simp [State.candidate] at h
  | cons p rest ih =>
    unfold State.candidate at h
    split at h
    · split at h
      · simp only [Option.some.injEq] at h
        exact h ▸ List.mem_cons_self
      · exact nomatch h
    · rename_i q hq
      split at h <;> simp only [Option.some.injEq] at h
      · exact h ▸ List.mem_cons_self
      · exact List.mem_cons_of_mem _ (h ▸ ih q hq)

/-- A table with a new station's entry at its end, for entries whose ids came from the table before. -/
theorem Act.addPeer (s : State) (l : List Peer) (p : Peer) (sat : Option Nat) (hc : s.ctl.state ≠ .config)
    (hsub : l.Sublist s.peers.entries) (hnew : ∀ q ∈ s.peers.entries, q.id ≠ p.id) (hown : p.id ≠ s.ctl.id)
    (hlen : s.peers.entries.length ≤ Config.peerCapacity → l.length < Config.peerCapacity) :
    Act s (s.setPeers { entries := l ++ [p], saturation := sat }) := by
  refine Act.peers s _ (fun hconf => absurd hconf hc) (fun hn => ?_) (fun ho q hq => ?_) (fun hl => ?_)
  · simp only [List.map_append, List.map_cons, List.map_nil]
    refine List.nodup_append.mpr ⟨hn.sublist (hsub.map _), by simp, ?_⟩
    intro a ha b hb
    obtain ⟨q, hq, rfl⟩ := List.mem_map.mp ha
    rw [List.mem_singleton.mp hb]
    exact hnew q (hsub.subset hq)
  · rcases List.mem_append.mp hq with hq | hq
    · exact ho q (hsub.subset hq)
    · rw [List.mem_singleton.mp hq]
      exact hown
  · have := hlen hl
    simp only [List.length_append, List.length_cons, List.length_nil]
    omega

theorem State.enterPeer_acts (n : PositionNotice) (s : State) (hc : s.ctl.state ≠ .config)
    (hnew : ∀ q ∈ s.peers.entries, q.id ≠ n.id) (hown : n.id ≠ s.ctl.id) : Acts s (s.enterPeer n) := by
  unfold State.enterPeer
  dsimp only
  split
  · rename_i hroom
    exact (Act.addPeer s s.peers.entries (n.entry s.clock 0) s.peers.saturation hc (.refl _) hnew hown fun _ => hroom).acts.trans
      (Act.report _ _ _ (.accepted _)).acts
  · split
    · rename_i out hout
      have hlt : (s.peers.without out.id).entries.length < s.peers.entries.length :=
        List.length_filter_lt_length_iff_exists.mpr ⟨out, s.candidate_mem _ _ hout, by simp⟩
      have hadd : Act s (s.setPeers { entries := (s.peers.without out.id).entries ++ [n.entry s.clock 0], saturation := none }) :=
        Act.addPeer s (s.peers.without out.id).entries (n.entry s.clock 0) none hc List.filter_sublist hnew hown
          fun hl => lt_of_lt_of_le hlt hl
      exact ((hadd.acts.trans (Act.report _ _ _ (.removal out.id)).acts).trans (Act.report _ _ _ (.accepted _)).acts).trans
        (State.reportSaturationEnd_acts _ _)
    · exact s.unenterable_acts

theorem State.takeClash_acts (s : State) : Acts s s.takeClash :=
  (Aside.raise _ s).acts.trans (Act.report _ _ _ .clash).acts

theorem State.countStale_acts (s : State) : Acts s s.countStale := Aside.acts (Aside.link _ s le_rfl)

/-- A failed lookup: no entry carries the id (R78). -/
theorem PeerView.find_none {v : PeerView} {id : Nat} (h : v.find id = none) : ∀ q ∈ v.entries, q.id ≠ id := by
  simpa [PeerView.find] using h

theorem State.takePosition_acts (n : PositionNotice) (s : State) (hc : s.ctl.state ≠ .config) :
    Acts s (s.takePosition n) := by
  unfold State.takePosition
  split
  · exact s.takeClash_acts
  · rename_i hown
    split
    · rename_i hfind
      exact s.enterPeer_acts n hc (PeerView.find_none hfind) hown
    · split
      · exact s.countStale_acts
      · exact (Act.updatePeer s _).acts.trans (Act.report _ _ _ (.accepted _)).acts

theorem State.takeLeave_acts (id seq : Nat) (s : State) : Acts s (s.takeLeave id seq) := by
  unfold State.takeLeave
  split
  · exact s.takeClash_acts
  · split
    · exact .refl
    · split
      · exact s.countStale_acts
      · exact s.removePeer_acts id

theorem State.quietTimeReached_acts (id : Nat) (s : State) : Acts s (s.quietTimeReached id) := by
  unfold State.quietTimeReached
  split
  · exact .refl
  · split
    · exact (Aside.reach _ s).acts.trans (State.agePeer_acts _ _ _)
    · exact .refl

theorem State.losePeer_acts (p : Peer) (s : State) : Acts s (s.losePeer p) :=
  (Aside.raise _ s).acts.trans (State.agePeer_acts _ _ _)

theorem State.lostTimeReached_acts (id : Nat) (s : State) : Acts s (s.lostTimeReached id) := by
  unfold State.lostTimeReached
  split
  · exact .refl
  · split
    · exact .refl
    · exact (Aside.reach _ s).acts.trans (State.losePeer_acts _ _)
    · exact ((s.quietTimeReached_acts id).trans (Aside.reach _ _).acts).trans (State.losePeer_acts _ _)

theorem State.saturationExpiry_acts (s : State) : Acts s s.saturationExpiry := by
  unfold State.saturationExpiry
  split
  · exact .refl
  · rename_i due _
    have hclear : Act (s.reach due) ((s.reach due).setPeers { s.peers with saturation := none }) :=
      Act.peers_sublist _ _ (List.Sublist.refl _)
    exact ((Aside.reach due s).acts.trans hclear.acts).trans (State.reportSaturationEnd_acts true _)

/-! ### The bays as acts (chapter 7) -/

theorem State.reportBays_acts (s : State) : Acts s s.reportBays := (Act.guided s _ .nothing).acts

theorem State.bayEvent_acts (t : BayTable) (s : State) : Acts s (s.bayEvent t) := by
  unfold State.bayEvent
  dsimp only
  have hset := (Aside.bays t s).trans (Aside.raiseIf ((closedSegments s.bays.entries t.entries).any s.takenOrUnder) .bayHold _)
  split
  · exact hset.acts
  · exact hset.acts.trans (State.reportBays_acts _)

theorem State.craneNotice_acts (id : Nat) (states : List BayState) (s : State) : Acts s (s.craneNotice id states) := by
  unfold State.craneNotice
  dsimp only
  split
  · exact s.bayEvent_acts _
  · exact (Aside.bays _ s).acts

theorem State.craneSilenceExpiry_acts (id : Nat) (s : State) : Acts s (s.craneSilenceExpiry id) := by
  unfold State.craneSilenceExpiry
  split
  · exact .refl
  · split
    · split
      · exact (Aside.reach _ s).acts.trans (State.bayEvent_acts _ _)
      · exact .refl
    · exact .refl

/-! ### A parse (chapter 4, R65) -/

theorem State.handNotice_acts (n : Notice) (s : State) (hc : s.ctl.state ≠ .config) : Acts s (s.handNotice n) := by
  cases n with
  | position p => exact s.takePosition_acts p hc
  | leave id seq => exact s.takeLeave_acts id seq
  | crane id bays => exact s.craneNotice_acts id bays

theorem State.frameParse_acts (s : State) : Acts s s.frameParse := by
  unfold State.frameParse
  split
  · exact .refl
  · rename_i hc
    split
    · exact .refl
    · rename_i f rest hq
      have hpop : Aside s { s with link := { s.link with queue := rest } } := Aside.link _ s (by simp [hq])
      dsimp only
      split
      · exact hpop.acts.trans (State.handNotice_acts _ _ hc)
      · exact hpop.acts

/-! ### Station Control and the claims' timers as acts (chapters 6 and 10) -/

theorem State.clashExpiry_acts (s : State) : Acts s s.clashExpiry := by
  unfold State.clashExpiry
  split
  · exact .refl
  · rename_i due _
    exact ((Aside.reach due s).trans (Aside.claim { s.claim with clash := none } _ rfl rfl)).acts.trans
      (Act.report _ _ _ .nothing).acts

theorem State.waitExpiry_acts (s : State) : Acts s s.waitExpiry := by
  unfold State.waitExpiry
  split
  · split
    · rename_i t _
      exact (((Aside.reach (t + 1000000 * s.waitLimit) s).trans
        (Aside.claim { s.claim with waitReported := true } _ rfl rfl)).trans (Aside.raise .waitExpired _)).acts
    · exact .refl
  · exact .refl

theorem State.joinExpiry_acts (s : State) : Acts s s.joinExpiry := by
  unfold State.joinExpiry
  split
  · rename_i due hst _
    have hnot : s.ctl.state ≠ .run := by simp [hst]
    exact ((Aside.reach due s).acts.trans
      (Act.enter (s.reach due) .run none hnot (.inr rfl) fun hc => absurd (hst.symm.trans hc) nofun).acts).trans
        (Act.guided _ _ .nothing).acts
  · exact .refl

/-! ### Commands at their owners as acts -/

theorem ownSetStation_acts (vals : List Nat) (s : State) (hc : s.ctl.state = .config) : Acts s (ownSetStation vals s).1 := by
  unfold ownSetStation
  split
  · exact .refl
  · split
    · exact .refl
    · exact Act.acts (.station s _ s.ctl.orientation hc)
  · split
    · exact .refl
    · exact Act.acts (.station s _ _ hc)

theorem ownSetTuning_acts (vals : List Nat) (s : State) (hc : s.ctl.state = .config) : Acts s (ownSetTuning vals s).1 := by
  unfold ownSetTuning
  split
  · exact .refl
  · exact .refl
  · split
    · exact .refl
    · rename_i r hr
      exact (Act.tuning s _ r _ hc hr).acts.trans (State.followMotion_acts _)

/-- A command that writes the map alone. -/
theorem Act.setMap (s : State) (m : MapStore) (hc : s.ctl.state = .config) (h : MapWrite s.map m) : Act s (s.setMap m) :=
  Act.mapWrite s m s.bays hc h

theorem windowCommand_last (top : Nat) (c c' : Cursor) (vals : List Nat) (h : (windowCommand top c vals).1 = some c') :
    c'.last ≤ c.last ∨ c'.last ≤ top := by
  unfold windowCommand at h
  split at h
  · exact nomatch h
  · split at h
    · exact nomatch h
    · simp only [Option.some.injEq] at h
      exact .inl (h ▸ le_rfl)
  · split at h
    · exact nomatch h
    · rename_i hok
      simp only [Option.some.injEq] at h
      exact .inr (h ▸ Nat.not_lt.mp fun hlt => hok (.inr (.inl hlt)))

theorem ownMapWindow_acts (vals : List Nat) (s : State) (hc : s.ctl.state = .config) : Acts s (ownMapWindow vals s).1 := by
  unfold ownMapWindow
  dsimp only
  split
  · rename_i c h
    exact (Act.setMap s _ hc (.segWindow c (windowCommand_last _ _ _ _ h))).acts
  · exact .refl

theorem ownTagWindow_acts (vals : List Nat) (s : State) (hc : s.ctl.state = .config) : Acts s (ownTagWindow vals s).1 := by
  unfold ownTagWindow
  dsimp only
  split
  · rename_i c h
    exact (Act.setMap s _ hc (.tagWindow c (windowCommand_last _ _ _ _ h))).acts
  · exact .refl

theorem ownMapSegment_acts (vals : List Nat) (s : State) (hc : s.ctl.state = .config) : Acts s (ownMapSegment vals s).1 := by
  unfold ownMapSegment
  split
  · split
    · exact (Act.setMap s _ hc (.segWindow s.map.segCursor.miss (.inl le_rfl))).acts
    · rename_i hpast
      split
      · exact .refl
      · exact (Act.setMap s _ hc (.segment _ (Bool.eq_false_iff.mpr hpast))).acts
  · exact .refl

theorem Cursor.emptyWrite_last (c : Cursor) : c.emptyWrite.last = c.last := by
  unfold Cursor.emptyWrite
  split <;> rfl

theorem ownTagWrite_acts (vals : List Nat) (s : State) (hc : s.ctl.state = .config) : Acts s (ownTagWrite vals s).1 := by
  unfold ownTagWrite
  split
  · exact (Act.setMap s _ hc (.tagWindow _ (.inl (Cursor.emptyWrite_last _).le))).acts
  · split
    · exact (Act.setMap s _ hc (.tagWindow s.map.tagCursor.miss (.inl le_rfl))).acts
    · rename_i hpast
      split
      · exact (Act.setMap s _ hc (.tag _ (Bool.eq_false_iff.mpr hpast))).acts
      · exact .refl

theorem ownWindowWrite_acts (vals : List Nat) (s : State) (hc : s.ctl.state = .config) :
    Acts s (ownWindowWrite vals s).1 := by
  unfold ownWindowWrite
  split
  · exact (Act.setMap s _ hc (.winMiss _ (Cursor.emptyWrite_last _))).acts
  · split
    · exact (Act.setMap s _ hc (.winMiss s.map.winCursor.miss rfl)).acts
    · rename_i hpast
      split
      · exact (Act.setMap s _ hc (.window _ (Bool.eq_false_iff.mpr hpast))).acts
      · exact .refl

theorem State.setCraneList_acts (ids : List Nat) (s : State) (hc : s.ctl.state = .config) : Acts s (s.setCraneList ids) := by
  unfold State.setCraneList
  split
  · exact .refl
  · exact Act.acts (.mapWrite s _ _ hc (.cranes ids))

theorem ownCraneList_acts (vals : List Nat) (s : State) (hc : s.ctl.state = .config) : Acts s (ownCraneList vals s).1 := by
  unfold ownCraneList
  split
  · exact .refl
  · dsimp only
    split
    · split
      · exact s.setCraneList_acts _ hc
      · exact .refl
    · split
      · exact s.setCraneList_acts _ hc
      · exact .refl

theorem ownMapSeal_acts (s : State) (hc : s.ctl.state = .config) : Acts s (ownMapSeal s).1 := by
  unfold ownMapSeal
  split
  · exact .refl
  · rename_i h
    exact (Act.setMap s _ hc (.walk (Bool.eq_false_iff.mpr h))).acts

theorem ownMapClear_acts (s : State) (hc : s.ctl.state = .config) : Acts s (ownMapClear s).1 :=
  Act.acts (.mapWrite s _ _ hc .clear)

theorem ownStartCommand_acts (s : State) (hc : s.ctl.state.starts = true) : Acts s (ownStartCommand s).1 := by
  unfold ownStartCommand
  split
  · exact .refl
  · rename_i hok
    have hnot : s.ctl.state ≠ .run := fun h => by simp [h, StationState.starts] at hc
    have hsealed : s.ctl.state = .config → s.map.isSealed = true := fun hconf => by
      simp only [State.startCheck, hconf, if_true] at hok
      split at hok
      · exact nomatch hok
      · simpa using hok
    exact ((Act.enter s .joining _ hnot (.inl rfl) hsealed).acts.trans
      ((Aside.sched _ _).trans (Aside.sched _ _)).acts).trans (Act.guided _ _ .start).acts

theorem ownLeave_acts (s : State) (hc : s.ctl.state ≠ .config) : Acts s (ownLeave s).1 := by
  unfold ownLeave
  split
  · exact (Act.depart s hc).acts.trans (((Aside.sched _ _).trans (Aside.buildLeave _)).trans (Aside.sched _ _)).acts
  · exact .refl

theorem ownSetPosition_acts (vals : List Nat) (s : State) (hc : s.ctl.state ≠ .config) : Acts s (ownSetPosition vals s).1 := by
  unfold ownSetPosition
  split
  · exact .refl
  · dsimp only
    split
    · exact .refl
    · split
      · exact .refl
      · exact (Act.seed s _ _ _ hc).acts.trans (Act.guided _ _ .seed).acts

/-! ### ROUTE and ROUTE CLEAR as acts (R44 to R52) -/

/-- No more ids are taken than there is room for (R48). -/
theorem takeIds_length_le (m : MapStore) (room pos : Nat) (prev : RouteEntry) (ids : List Nat) :
    (takeIds m room pos prev ids).entries.length ≤ room := by
  induction ids generalizing room pos prev with
  | nil => simp [takeIds]
  | cons id rest ih =>
    cases room with
    | zero => simp [takeIds]
    | succ room =>
      unfold takeIds
      split
      · split
        · simp
        · simpa using ih room (pos + 1) _
      · simp

/-- What a plan keeps: its entries and its room make up the queue, and the current entry stays where it is (R45, R47). -/
structure PlanKeeps (s : State) (plan : RoutePlan) : Prop where
  room : s.route.entries.length ≤ Config.routeCapacity → plan.kept.length + plan.room ≤ Config.routeCapacity
  current : s.pos.quality ≠ .none → ∀ i e, s.pos.index = some i → s.route.entries[i]? = some e → plan.kept[i]? = some e

theorem State.planWhole_keeps (s : State) (sign : Nat) (ids : List Nat) (plan : RoutePlan)
    (hnone : s.pos.quality = .none ∨ s.pos.index = none) (h : s.planWhole sign ids = .ok plan) : PlanKeeps s plan := by
  unfold State.planWhole at h
  split at h
  · split at h
    · simp only [Except.ok.injEq] at h
      subst h
      refine ⟨fun _ => by simp [Config.routeCapacity], fun hq i e hi => ?_⟩
      rcases hnone with hnone | hnone
      · exact absurd hnone hq
      · exact absurd (hnone.symm.trans hi) nofun
    · exact nomatch h
  · exact nomatch h

theorem State.planAnchored_keeps (s : State) (i sign : Nat) (ids : List Nat) (plan : RoutePlan) (hi : s.pos.index = some i)
    (h : s.planAnchored i sign ids = .ok plan) : PlanKeeps s plan := by
  unfold State.planAnchored at h
  split at h
  · split at h
    · simp only [Except.ok.injEq] at h
      subst h
      refine ⟨fun hl => ?_, fun _ j e hj he => ?_⟩
      · simp only [List.length_take]
        omega
      · obtain rfl : i = j := Option.some.inj (hi.symm.trans hj)
        simpa [List.getElem?_take] using he
    · exact nomatch h
  · exact nomatch h

theorem State.planAppend_keeps (s : State) (ids : List Nat) (plan : RoutePlan) (h : s.planAppend ids = .ok plan) :
    PlanKeeps s plan := by
  unfold State.planAppend at h
  split at h
  · simp only [Except.ok.injEq] at h
    subst h
    exact ⟨fun hl => by simp only []; omega, fun _ _ _ _ he => he⟩
  · exact nomatch h

theorem State.planRoute_keeps (s : State) (p : RouteParams) (plan : RoutePlan) (h : s.planRoute p = .ok plan) :
    PlanKeeps s plan := by
  unfold State.planRoute at h
  split at h
  · split at h
    · rename_i hq
      exact s.planWhole_keeps _ _ _ (.inl hq) h
    · rename_i hi _
      exact s.planWhole_keeps _ _ _ (.inr hi) h
    · rename_i hi _
      exact s.planAnchored_keeps _ _ _ _ hi h
  · exact s.planAppend_keeps _ _ h

theorem State.writeRoute_acts (s : State) (p : RouteParams) (plan : RoutePlan) (n : Nat) (h : PlanKeeps s plan) :
    Acts s (s.writeRoute p plan n).1 := by
  unfold State.writeRoute
  refine Relation.ReflTransGen.trans ?_ (Act.reportRoute _).acts
  refine Relation.ReflTransGen.trans ?_ (Aside.raiseIf _ _ _).acts
  refine Act.acts (.route s _ (fun hl => ?_) (fun hq i e hi he => ?_))
  · have hroom := h.room hl
    have htaken := takeIds_length_le s.map plan.room (plan.already + 1) plan.last plan.ids
    simp only [List.length_append]
    omega
  · have hkept := h.current hq i e hi he
    exact (List.getElem?_append_left (List.getElem?_eq_some_iff.mp hkept).1).trans hkept

theorem ownRoute_acts (vals : List Nat) (s : State) : Acts s (ownRoute vals s).1 := by
  unfold ownRoute
  split
  · exact .refl
  · dsimp only
    split
    · exact .refl
    · split
      · unfold State.routeWithoutIds
        split <;> exact .refl
      · split
        · exact .refl
        · rename_i plan hplan
          exact s.writeRoute_acts _ _ _ (s.planRoute_keeps _ _ hplan)

theorem ownRouteClear_acts (s : State) : Acts s (ownRouteClear s).1 := by
  unfold ownRouteClear
  refine Relation.ReflTransGen.trans ?_ (Act.reportRoute _).acts
  refine Act.acts (.route s _ (fun hl => ?_) (fun hq i e hi he => ?_))
  · simp only [List.length_take]
    omega
  · cases hqual : s.pos.quality with
    | none => exact absurd hqual hq
    | doubtful => simpa [hi, List.getElem?_take] using he
    | good => simpa [hi, List.getElem?_take] using he

/-! ### The other commands as acts -/

theorem ownSetLoad_acts (vals : List Nat) (s : State) : Acts s (ownSetLoad vals s).1 := by
  unfold ownSetLoad
  split
  · exact .refl
  · rename_i v _
    split
    · exact .refl
    · have hload : Aside s { s with load := if v = 1 then .laden else .empty } := { Aside.refl s with }
      exact hload.acts.trans (Act.recompute _).acts

theorem ownSetPriority_acts (vals : List Nat) (s : State) : Acts s (ownSetPriority vals s).1 := by
  unfold ownSetPriority
  split
  · exact .refl
  · rename_i v _
    exact Relation.ReflTransGen.trans (Aside.claim { s.claim with prec := min 3 v } s rfl rfl).acts
      (Act.report _ _ _ .nothing).acts

theorem ownBayControl_acts (vals : List Nat) (s : State) : Acts s (ownBayControl vals s).1 := by
  unfold ownBayControl
  split
  · exact .refl
  · dsimp only
    split
    · exact s.bayEvent_acts _
    · exact .refl

theorem State.setStill_acts (force detect : Bool) (s : State) : Acts s (s.setStill force detect) :=
  (Aside.pos { s.pos with force := force, detect := detect } s rfl rfl rfl).acts.trans (State.followMotion_acts _)

theorem ownStillControl_acts (vals : List Nat) (s : State) : Acts s (ownStillControl vals s).1 := by
  unfold ownStillControl
  split
  · exact .refl
  · split
    · exact .refl
    · exact s.setStill_acts _ _
  · split
    · exact .refl
    · exact s.setStill_acts _ _

theorem ownClearPeer_acts (vals : List Nat) (s : State) : Acts s (ownClearPeer vals s).1 := by
  unfold ownClearPeer
  split
  · exact .refl
  · split
    · exact s.removePeer_acts _
    · exact .refl

theorem ownReadPeer_acts (vals : List Nat) (s : State) : Acts s (ownReadPeer vals s).1 := by
  unfold ownReadPeer
  split
  · exact .refl
  · split <;> exact .refl

theorem Aside.clearCounters (s : State) : Aside s s.clearCounters := { Aside.refl s with }

theorem ownReadCounters_acts (vals : List Nat) (s : State) : Acts s (ownReadCounters vals s).1 := by
  unfold ownReadCounters
  split
  · exact .refl
  · exact .refl
  · exact (Aside.clearCounters s).acts
  · exact .refl

/-- A command taken in its state is a chain of acts of its owner. -/
theorem Cmd.run_acts (c : Cmd) (vals : List Nat) (s : State) (h : c.takenIn s.ctl.state = true) :
    Acts s (c.run vals s).1 := by
  have hconf : s.ctl.state.isConfig = true → s.ctl.state = .config := (StationState.isConfig_iff _).mp
  have hworks : s.ctl.state.works = true → s.ctl.state ≠ .config := fun hw hcfg => by
    simp [hcfg, StationState.works] at hw
  cases c
  case setStation => exact ownSetStation_acts vals s (hconf h)
  case setTuning => exact ownSetTuning_acts vals s (hconf h)
  case mapWindow => exact ownMapWindow_acts vals s (hconf h)
  case mapSegment => exact ownMapSegment_acts vals s (hconf h)
  case mapSeal => exact ownMapSeal_acts s (hconf h)
  case mapClear => exact ownMapClear_acts s (hconf h)
  case tagWindow => exact ownTagWindow_acts vals s (hconf h)
  case tagWrite => exact ownTagWrite_acts vals s (hconf h)
  case windowWrite => exact ownWindowWrite_acts vals s (hconf h)
  case craneList => exact ownCraneList_acts vals s (hconf h)
  case start => exact ownStartCommand_acts s h
  case leave => exact ownLeave_acts s (hworks h)
  case restart => exact Aside.acts (Aside.setPort_same s _ rfl rfl)
  case setPosition => exact ownSetPosition_acts vals s (hworks h)
  case route => exact ownRoute_acts vals s
  case routeClear => exact ownRouteClear_acts s
  case setLoad => exact ownSetLoad_acts vals s
  case setPriority => exact ownSetPriority_acts vals s
  case bayControl => exact ownBayControl_acts vals s
  case stillControl => exact ownStillControl_acts vals s
  case clearPeer => exact ownClearPeer_acts vals s
  case readPeer => exact ownReadPeer_acts vals s
  case readCounters => exact ownReadCounters_acts vals s
  case readEvents => exact Aside.acts (Aside.setPort_same s _ rfl rfl)
  case readStatus | readGuidance | readPosition | readRoute | readClaims | readBays => exact .refl

/-! ### The Command Port as acts (chapter 11) -/

theorem State.handOver_acts (c : Cmd) (vals : List Nat) (s : State) : Acts s (s.handOver c vals) := by
  unfold State.handOver
  refine Relation.ReflTransGen.trans ?_ (Aside.queueReply _ _).acts
  unfold Cmd.act
  split
  · rename_i h
    exact c.run_acts vals s h
  · exact .refl

theorem State.breakOpen_acts (s : State) : Acts s s.breakOpen := by
  unfold State.breakOpen
  split
  · exact .refl
  · exact (Aside.setPort_same s { s.port with openCmd := none } rfl rfl).acts.trans (State.handOver_acts _ _ _)

/-- A change of the open command or of STRAY. -/
theorem Aside.openPort (o : Option OpenCommand) (stray : Bool) (s : State) :
    Aside s (s.setPort { s.port with openCmd := o, stray := stray }) := Aside.setPort_same s _ rfl rfl

theorem State.openCommand_acts (c : Cmd) (s : State) : Acts s (s.openCommand c) := by
  unfold State.openCommand
  split
  · exact s.handOver_acts _ _
  · exact (Aside.openPort _ s.port.stray s).acts

theorem State.takeCommandByte_acts (b : Byte) (s : State) : Acts s (s.takeCommandByte b) := by
  unfold State.takeCommandByte
  split
  · exact s.breakOpen_acts.trans (State.openCommand_acts _ _)
  · exact s.breakOpen_acts.trans (Aside.queueReply _ _).acts

theorem State.addParameter_acts (b : Byte) (o : OpenCommand) (s : State) : Acts s (s.addParameter b o) := by
  have hclosed : Aside s (s.setPort { s.port with openCmd := none }) := Aside.openPort none s.port.stray s
  unfold State.addParameter
  split
  · exact hclosed.acts.trans (State.handOver_acts _ _ _)
  · dsimp only
    split
    · exact (Aside.openPort _ s.port.stray s).acts
    · split
      · exact hclosed.acts.trans (State.handOver_acts _ _ _)
      · exact (Aside.openPort _ s.port.stray s).acts

theorem State.takeParameterByte_acts (b : Byte) (s : State) : Acts s (s.takeParameterByte b) := by
  unfold State.takeParameterByte
  split
  · exact s.addParameter_acts b _
  · exact (Aside.openPort s.port.openCmd true s).acts

/-- Placing a reply leaves the receive buffer and keeps the reply buffer within its 512 bytes (R169). -/
theorem CommandPort.placeOne_keeps (p : CommandPort) : p.placeOne.rx = p.rx ∧
    (p.held ≤ Config.replyBufferCapacity → p.placeOne.held ≤ Config.replyBufferCapacity) := by
  unfold CommandPort.placeOne
  split
  · exact ⟨rfl, id⟩
  · split
    · rename_i hroom
      refine ⟨rfl, fun _ => ?_⟩
      simpa [CommandPort.held, CommandPort.bytesOf] using hroom
    · exact ⟨rfl, id⟩

theorem Aside.placeMany (n : Nat) (s : State) : Aside s (s.setPort (CommandPort.placeMany n s.port)) := by
  induction n generalizing s with
  | zero => exact Aside.refl s
  | succ n ih =>
    have hone := s.port.placeOne_keeps
    exact (Aside.setPort s s.port.placeOne (by rw [hone.1]; exact id) hone.2).trans (ih (s.setPort s.port.placeOne))

theorem Aside.settle (s : State) : Aside s s.settle := Aside.placeMany _ s

theorem State.atPort_acts (k : State → State) (s : State) (h : ∀ u, Acts u (k u)) : Acts s (s.atPort k) := by
  unfold State.atPort
  split
  · exact .refl
  · exact (Aside.settle s).acts.trans (h _)

theorem Aside.popByte (s : State) : Aside s s.popByte :=
  Aside.setPort s _ (fun h => by simp only [List.length_tail]; omega) id

theorem Aside.hostByte (b : Byte) (s : State) : Aside s (s.hostByte b) := by
  unfold State.hostByte
  split
  · rename_i hroom
    exact Aside.setPort s _ (fun _ => by simpa using hroom) id
  · exact Aside.setPort_same s _ rfl rfl

theorem State.commandByteTaken_acts (s : State) : Acts s s.commandByteTaken := by
  unfold State.commandByteTaken
  split
  · exact .refl
  · split
    · exact s.atPort_acts _ fun u => (Aside.popByte u).acts.trans (State.takeCommandByte_acts _ _)
    · exact .refl

theorem State.parameterByteTaken_acts (s : State) : Acts s s.parameterByteTaken := by
  unfold State.parameterByteTaken
  split
  · exact .refl
  · split
    · exact .refl
    · exact s.atPort_acts _ fun u => (Aside.popByte u).acts.trans (State.takeParameterByte_acts _ _)

theorem State.unknownCommand_acts (s : State) : Acts s s.unknownCommand := by
  have hbreak : ∀ u : State, Acts u u.breakOpen.answerUnknown := fun u => u.breakOpen_acts.trans (Aside.queueReply _ _).acts
  unfold State.unknownCommand
  split
  · split
    · exact s.atPort_acts _ fun u => (Aside.popByte u).acts.trans (hbreak _)
    · exact s.atPort_acts _ hbreak
  · exact s.atPort_acts _ hbreak

theorem State.takeCommand_acts (c : Cmd) (vals : List Nat) (s : State) : Acts s (s.takeCommand c vals) :=
  s.atPort_acts _ fun u => u.breakOpen_acts.trans (State.handOver_acts _ _ _)

theorem State.walkEnd_acts (s : State) : Acts s s.walkEnd := by
  unfold State.walkEnd
  split
  · rename_i h
    exact (Act.walkEnd s h).acts.trans (Aside.queueReply _ _).acts
  · exact .refl

theorem State.replyPlace_acts (s : State) : Acts s s.replyPlace :=
  have hone := s.port.placeOne_keeps
  (Aside.setPort s s.port.placeOne (by rw [hone.1]; exact id) hone.2).acts

/-- REPLY_SENT is a chain of acts, with RESTART's reset after it where the last reply before it has left (R163, R169). -/
theorem State.replySent_acts (s : State) : ∃ u, Acts s u ∧ (s.replySent = u ∨ s.replySent = u.restartReset) := by
  unfold State.replySent
  dsimp only
  split
  · exact ⟨_, (Aside.settle s).acts, .inl rfl⟩
  · rename_i r rest hpl
    have hsent : Aside s.settle (s.settle.setPort { s.settle.port with placed := rest }) :=
      Aside.setPort _ _ id fun h => by
        simp only [CommandPort.held, hpl, List.map_cons, List.sum_cons] at h ⊢
        omega
    refine ⟨_, ((Aside.settle s).trans hsent).acts, ?_⟩
    split
    · exact .inr rfl
    · exact .inl rfl

/-! ### What a row is -/

theorem State.unlessHeld_acts {k : State → State} {s : State} (h : Acts s (k s)) : Acts s (s.unlessHeld k) := by
  unfold State.unlessHeld
  split
  · exact .refl
  · exact h

/-- The rows that reset the part at once (R163): the only ones that are no chain of acts. -/
inductive ResetRow (s : State) : Instr → State → Prop
  | powerOn (id : BitVec 6) (along high : Bool) : ResetRow s (.powerOn id along high) (s.powerOn id along high)
  | release (id : BitVec 6) (along : Bool) : ResetRow s (.resetLineRelease id along) (s.resetRelease id along)

/-- Every row answers next, with a reset, a chain of acts, or a chain of acts and RESTART's reset after it. -/
theorem exec_cases (c : Instr) (s t : State) (h : exec c s = .next t) :
    ResetRow s c t ∨ ∃ u, Acts s u ∧ (t = u ∨ t = u.restartReset) := by
  have hchain : ∀ u, exec c s = .next u → Acts s u → ResetRow s c t ∨ ∃ u, Acts s u ∧ (t = u ∨ t = u.restartReset) :=
    fun u hu hacts => .inr ⟨u, hacts, .inl (Host.Outcome.next.inj (h.symm.trans hu))⟩
  cases hcmd : commandOf c with
  | some p => exact hchain _ (exec_command c p.1 p.2 s hcmd) (State.unlessHeld_acts (State.takeCommand_acts _ _ s))
  | none =>
    cases c <;> simp only [commandOf, reduceCtorEq] at hcmd
    case powerOn id along high =>
      obtain rfl := Host.Outcome.next.inj h
      exact .inl (.powerOn id along high)
    case resetLineRelease id along =>
      obtain rfl := Host.Outcome.next.inj h
      exact .inl (.release id along)
    case replySent =>
      obtain rfl := Host.Outcome.next.inj h
      by_cases hheld : s.pins.resetHeld = true
      · exact .inr ⟨s, .refl, .inl (by simp [State.unlessHeld, hheld])⟩
      · obtain ⟨u, hacts, hu⟩ := s.replySent_acts
        exact .inr ⟨u, hacts, by rwa [State.unlessHeld_running _ s (Bool.eq_false_iff.mpr hheld)]⟩
    case resetLineAssert => exact hchain _ rfl (Act.resetAssert s).acts
    case directionLevelChange => exact hchain _ rfl s.directionLevel_acts
    case hostByteArrival b => exact hchain _ rfl (State.unlessHeld_acts (Aside.hostByte b s).acts)
    case commandByteTaken => exact hchain _ rfl (State.unlessHeld_acts s.commandByteTaken_acts)
    case parameterByteTaken => exact hchain _ rfl (State.unlessHeld_acts s.parameterByteTaken_acts)
    case replyPlace => exact hchain _ rfl (State.unlessHeld_acts s.replyPlace_acts)
    case unknownCommand => exact hchain _ rfl (State.unlessHeld_acts s.unknownCommand_acts)
    case mapSealWalkEnd => exact hchain _ rfl (State.unlessHeld_acts s.walkEnd_acts)
    case wheelPulse => exact hchain _ rfl (State.unlessHeld_acts (Aside.odo _ s).acts)
    case raceEnd => exact hchain _ rfl (State.unlessHeld_acts s.raceEnd_acts)
    case directionChange => exact hchain _ rfl (State.unlessHeld_acts s.directionChange_acts)
    case tagRead b1 b2 b3 b4 b5 => exact hchain _ rfl (State.unlessHeld_acts (s.tagRead_acts b1 b2 b3 b4 b5))
    case readGapTimeout => exact hchain _ rfl (State.unlessHeld_acts s.gapTimeout_acts)
    case periodStart => exact hchain _ rfl (State.unlessHeld_acts (Act.periodBegin s).acts)
    case widthReached => exact hchain _ rfl (State.unlessHeld_acts (Act.widthEnd s).acts)
    case modemFrameArrival f => exact hchain _ rfl (State.unlessHeld_acts (s.frameArrival_acts f))
    case startOfSend => exact hchain _ rfl (State.unlessHeld_acts s.startOfSend_acts)
    case frameParse => exact hchain _ rfl (State.unlessHeld_acts s.frameParse_acts)
    case cadenceExpiry => exact hchain _ rfl (State.unlessHeld_acts s.cadenceExpiry_acts)
    case promptGuardExpiry => exact hchain _ rfl (State.unlessHeld_acts s.guardExpiry_acts)
    case coincidenceWindowClose => exact hchain _ rfl (State.unlessHeld_acts s.windowClose_acts)
    case quietTimeReached id => exact hchain _ rfl (State.unlessHeld_acts (s.quietTimeReached_acts id))
    case peerLost id => exact hchain _ rfl (State.unlessHeld_acts (s.lostTimeReached_acts id))
    case saturationTimerExpiry => exact hchain _ rfl (State.unlessHeld_acts s.saturationExpiry_acts)
    case clashTimerExpiry => exact hchain _ rfl (State.unlessHeld_acts s.clashExpiry_acts)
    case waitExpired => exact hchain _ rfl (State.unlessHeld_acts s.waitExpiry_acts)
    case craneSilenceExpiry id => exact hchain _ rfl (State.unlessHeld_acts (s.craneSilenceExpiry_acts id))
    case joinListenExpiry => exact hchain _ rfl (State.unlessHeld_acts s.joinExpiry_acts)
    case readerLeadByte b => exact hchain _ rfl (State.unlessHeld_acts (s.readerByte_acts b))

end Sys2Proof.Machine
end

section
/-! PROOFS. The invariants that a report's frame decides: the queue, the peer table, the place, the map (O2, O56, O58,
O59). -/

namespace Sys2Proof.Machine

/-! ### What a report leaves, field by field -/

theorem ReportFrame.quality {s t : State} (h : ReportFrame s t) : t.pos.quality = s.pos.quality :=
  (congrArg Position.quality h.pos :)

theorem ReportFrame.offset {s t : State} (h : ReportFrame s t) : t.pos.offset = s.pos.offset :=
  (congrArg Position.offset h.pos :)

theorem ReportFrame.queue {s t : State} (h : ReportFrame s t) : t.link.queue = s.link.queue :=
  (congrArg LinkPort.queue h.link :)

theorem ReportFrame.rx {s t : State} (h : ReportFrame s t) : t.port.rx = s.port.rx := (congrArg CommandPort.rx h.port :)

theorem ReportFrame.placed {s t : State} (h : ReportFrame s t) : t.port.placed = s.port.placed :=
  (congrArg CommandPort.placed h.port :)

/-- Any effect of its own that an event of the Claim Unit has leaves all but the Claim Unit as a report does. -/
theorem OwnEffect.frame {own : State → State × List Claim} (h : OwnEffect own) (s : State) :
    ∃ c, ReportFrame { s with claim := c } (own s).1 := by
  cases h
  case nothing => exact ⟨s.claim, .refl s⟩
  case advertise w => exact ⟨s.claim, ownAdvertise_frame w s⟩
  case accepted p => exact ⟨s.claim, ownAccepted_frame p s⟩
  case removal id => exact ⟨s.claim, ownRemoval_frame id s⟩
  case saturation on => exact ⟨{ s.claim with satSuspension := on }, .refl _⟩
  case clash => exact ⟨{ s.claim with clash := some (s.after s.lostTime) }, .refl _⟩
  case seed => exact ⟨s.claim, ownSeed_frame s⟩
  case start => exact ⟨s.claim, ownStart_frame s⟩
  case routeChange => exact ⟨s.claim, ownRouteChange_frame s⟩
  case leaving => exact ⟨s.claim, ownLeaving_frame s⟩

theorem OwnEffect.claimOnly_frame {own : State → State × List Claim} (h : OwnEffect own) (exam : Bool) (s : State) :
    ∃ c, ReportFrame { s with claim := c } (s.claimOnly own exam) :=
  let ⟨c, hc⟩ := h.frame s
  ⟨c, hc.trans (s.claimOnly_frame own exam)⟩

theorem OwnEffect.guided_frame {own : State → State × List Claim} (h : OwnEffect own) (s : State) :
    ∃ c, ReportFrame { s with claim := c } (s.guided (fun t => (claimEvent own true t).1)) :=
  let ⟨c, hc⟩ := h.frame s
  ⟨c, (hc.trans (claimEvent_frame own true s)).trans (s.guided_frame (fun t => (claimEvent own true t).1))⟩

/-- What the acts that end in a report do beside the Claim Unit: Station Control changes at departure and at OFF-LINE, and
only its state and join timer. -/
inductive Act.Reported (s t : State) : Prop
  | same (c : ClaimUnit) (h : ReportFrame { s with claim := c } t)
  | turned (c : ClaimUnit) (st : StationState) (timer : Option Nat) (hst : st = .leaving ∨ st = .offLine)
      (hc : s.ctl.state ≠ .config) (h : ReportFrame { s with claim := c, ctl := { s.ctl with state := st, joinTimer := timer } } t)

theorem Act.report_reported {s : State} {own : State → State × List Claim} (h : OwnEffect own) (exam : Bool) :
    Act.Reported s (s.claimOnly own exam) :=
  let ⟨c, hc⟩ := h.claimOnly_frame exam s
  .same c hc

theorem Act.guided_reported {s : State} {own : State → State × List Claim} (h : OwnEffect own) :
    Act.Reported s (s.guided (fun t => (claimEvent own true t).1)) :=
  let ⟨c, hc⟩ := h.guided_frame s
  .same c hc

theorem Act.reportPosition_reported (s : State) : Act.Reported s s.reportPosition := .same s.claim s.reportPosition_frame

theorem Act.reportRoute_reported (s : State) : Act.Reported s s.reportRoute := .same s.claim s.reportRoute_frame

theorem Act.recompute_reported (s : State) : Act.Reported s s.recompute := .same s.claim s.recompute_frame

theorem Act.depart_reported (s : State) (hc : s.ctl.state ≠ .config) : Act.Reported s
    ((s.setCtl { s.ctl with state := .leaving, joinTimer := none }).guided (fun t => (claimEvent ownLeaving true t).1)) :=
  let ⟨c, h⟩ := OwnEffect.leaving.guided_frame (s.setCtl { s.ctl with state := .leaving, joinTimer := none })
  .turned c .leaving none (.inl rfl) hc h

theorem Act.offLine_reported (s : State) (h : s.ctl.state = .leaving) :
    Act.Reported s (s.setCtl { s.ctl with state := .offLine }).recompute :=
  .turned s.claim .offLine s.ctl.joinTimer (.inr rfl) (by simp [h]) (State.recompute_frame _)

/-! ### The queue of waiting commands (O2) -/

theorem Act.Reported.pending {s t : State} (h : Act.Reported s t) : t.pending = s.pending := by
  cases h with
  | same c h => exact h.pending
  | turned c st timer hst hc h => exact h.pending

/-- The end of a walk touches the map and the bays (R12). -/
theorem State.sealWalkEnd_eq (s : State) :
    s.sealWalkEnd.1 = { s with map := s.sealWalkEnd.1.map, bays := s.sealWalkEnd.1.bays } := by
  unfold State.sealWalkEnd
  dsimp only
  split <;> rfl

/-- A fix touches the position and the odometry (R29). -/
theorem State.acceptFix_eq (fix : Int) (s : State) :
    s.acceptFix fix = { s with pos := (s.acceptFix fix).pos, odo := (s.acceptFix fix).odo } := by
  unfold State.acceptFix
  split <;> rfl

theorem State.rejectFix_eq (err : Option Int) (s : State) :
    s.rejectFix err = { s with pos := (s.rejectFix err).pos, port := (s.rejectFix err).port } :=
  State.dropQuality_eq _ _

/-- The width's end touches the clock and the lines (R151). -/
theorem State.widthEnd_eq (s : State) : s.widthEnd = { s with clock := s.widthEnd.clock, line := s.widthEnd.line } := by
  unfold State.widthEnd
  split <;> rfl

/-- No act touches the queue of waiting commands. -/
theorem Act.pending {s t : State} (h : Act s t) : t.pending = s.pending := by
  cases h
  case aside h => exact h.pending
  case widthEnd => exact (congrArg State.pending s.widthEnd_eq :)
  case walkEnd => exact (congrArg State.pending s.sealWalkEnd_eq :)
  case credit => exact (congrArg State.pending s.credit_eq :)
  case acceptFix fix _ => exact (congrArg State.pending (s.acceptFix_eq fix) :)
  case rejectFix err => exact (congrArg State.pending (s.rejectFix_eq err) :)
  case report own exam h => exact (Act.report_reported h exam).pending
  case guided own h => exact (Act.guided_reported h).pending
  case reportPosition => exact (Act.reportPosition_reported s).pending
  case reportRoute => exact (Act.reportRoute_reported s).pending
  case recompute => exact (Act.recompute_reported s).pending
  case depart hc => exact (Act.depart_reported s hc).pending
  case offLine h => exact (Act.offLine_reported s h).pending
  case periodBegin | resetAssert | mapWrite | station | tuning | coreFix | seed | route | peers | enter => rfl

theorem Acts.pending {s t : State} (h : Acts s t) : t.pending = s.pending :=
  h.keep (P := fun u => u.pending = s.pending) (fun _ _ hact hu => hact.pending.trans hu) rfl

theorem State.powerOn_pending (id : BitVec 6) (along high : Bool) (s : State) : (s.powerOn id along high).pending = s.pending := by
  unfold State.powerOn
  dsimp only
  split <;> rfl

theorem State.resetRelease_pending (id : BitVec 6) (along : Bool) (s : State) :
    (s.resetRelease id along).pending = s.pending := by
  unfold State.resetRelease
  dsimp only
  split <;> rfl

/-- Settles O2: a row is a reset or a chain of acts, and none of them touches the queue. -/
theorem execKeepsQueue : Obligations.ExecKeepsQueue := by
  intro c s t h
  obtain hreset | ⟨u, hacts, rfl | rfl⟩ := exec_cases c s t h
  · cases hreset with
    | powerOn id along high => exact s.powerOn_pending id along high
    | release id along => exact s.resetRelease_pending id along
  · exact hacts.pending
  · exact hacts.pending

/-! ### From acts to steps -/

/-- An invariant of a step: every act keeps it, every reset establishes or keeps it, and it does not speak of the queue of
commands nor of the clock. -/
theorem step_keeps {P : State → Prop} (hact : ∀ s t, Act s t → P s → P t)
    (hcold : ∀ (s : State) (id : BitVec 6) (along : Bool), P s → P (s.coldReset id along))
    (hwarm : ∀ (s : State) (c : StationControl), c.state = .config → c.tuning = s.ctl.tuning → P s →
      P (s.resetWith s.map.afterReset c))
    (hqueue : ∀ (s : State) (l : List Instr), P s → P { s with pending := l }) {s t : State} (hs : P s)
    (h : step s = .next t) : P t := by
  have haside : ∀ u v : State, Aside u v → P u → P v := fun u v hv => hact u v (.aside hv)
  unfold step at h
  split at h
  · obtain rfl := Host.Outcome.next.inj h
    unfold State.idle
    split
    · exact hs
    · exact haside s _ { Aside.refl s with } hs
  · rename_i c rest _
    have hs1 := hqueue s rest hs
    generalize ({ s with pending := rest } : State) = s1 at hs1 h
    obtain hreset | ⟨u, hacts, rfl | rfl⟩ := exec_cases c s1 t h
    · cases hreset with
      | powerOn id along high =>
        unfold State.powerOn
        dsimp only
        split
        · exact haside s1 _ (Aside.pins _ s1) hs1
        · exact hcold _ id along (haside s1 _ (Aside.pins _ s1) hs1)
      | release id along =>
        unfold State.resetRelease
        dsimp only
        split
        · exact hcold _ id along (haside s1 _ (Aside.pins _ s1) hs1)
        · exact hwarm { s1 with pins := { s1.pins with resetHeld := false } } _ rfl rfl (haside s1 _ (Aside.pins _ s1) hs1)
    · exact hacts.keep hact hs1
    · exact hwarm _ _ rfl rfl (hacts.keep hact hs1)

/-! ### The peer table (O56) -/

theorem PeersDistinct.of_same {s t : State} (h : PeersDistinct s) (hp : t.peers.entries = s.peers.entries)
    (hid : t.ctl.id = s.ctl.id) (hst : t.ctl.state = .config → s.ctl.state = .config) : PeersDistinct t where
  distinct := hp ▸ h.distinct
  notOwn := by
    rw [hp, hid]
    exact h.notOwn
  config := fun hc => hp.trans (h.config (hst hc))

theorem Act.Reported.peersDistinct {s t : State} (h : Act.Reported s t) (hs : PeersDistinct s) : PeersDistinct t := by
  cases h with
  | same c h => exact hs.of_same (congrArg _ h.peers) (congrArg _ h.ctl) fun hc => by rwa [h.ctl] at hc
  | turned c st timer hst hc h =>
    refine hs.of_same (congrArg _ h.peers) (by rw [h.ctl]) fun hc' => ?_
    rw [h.ctl] at hc'
    rcases hst with hst | hst <;> exact absurd (hst.symm.trans hc') nofun

/-- An empty table meets the law on station ids. -/
theorem peersDistinct_empty (s : State) (h : s.peers.entries = []) : PeersDistinct s where
  distinct := by simp [h]
  notOwn := by simp [h]
  config := fun _ => h

theorem Act.peersDistinct {s t : State} (hact : Act s t) (hs : PeersDistinct s) : PeersDistinct t := by
  cases hact
  case aside h => exact hs.of_same h.peers (congrArg _ h.ctl) fun hc => by rwa [h.ctl] at hc
  case widthEnd => rw [s.widthEnd_eq]; exact hs.of_same rfl rfl id
  case walkEnd => rw [s.sealWalkEnd_eq]; exact hs.of_same rfl rfl id
  case credit => rw [s.credit_eq]; exact hs.of_same rfl rfl id
  case acceptFix fix _ => rw [s.acceptFix_eq]; exact hs.of_same rfl rfl id
  case rejectFix err => rw [s.rejectFix_eq]; exact hs.of_same rfl rfl id
  case station id o hc => exact peersDistinct_empty _ (hs.config hc)
  case peers v he hd ho hl => exact ⟨hd hs.distinct, ho hs.notOwn, fun hc => he hc (hs.config hc)⟩
  case enter st timer hr hst hm =>
    exact ⟨hs.distinct, hs.notOwn, fun hc => by rcases hst with hst | hst <;> exact absurd (hst.symm.trans hc) nofun⟩
  case report own exam h => exact (Act.report_reported h exam).peersDistinct hs
  case guided own h => exact (Act.guided_reported h).peersDistinct hs
  case reportPosition => exact (Act.reportPosition_reported s).peersDistinct hs
  case reportRoute => exact (Act.reportRoute_reported s).peersDistinct hs
  case recompute => exact (Act.recompute_reported s).peersDistinct hs
  case depart hc => exact (Act.depart_reported s hc).peersDistinct hs
  case offLine h => exact (Act.offLine_reported s h).peersDistinct hs
  case periodBegin | resetAssert | mapWrite | tuning | coreFix | seed | route => exact hs.of_same rfl rfl id

/-- Settles O56: the acts that write the table keep its ids apart, the others leave it, and a reset empties it. -/
theorem peersInvariant : Obligations.PeersInvariant := fun _ _ hs h =>
  step_keeps (P := PeersDistinct) (fun _ _ hact hu => hact.peersDistinct hu) (fun _ _ _ _ => peersDistinct_empty _ rfl)
    (fun _ _ _ _ _ => peersDistinct_empty _ rfl) (fun _ _ hu => hu.of_same rfl rfl id) hs h

/-! ### The place (O58) -/

/-- The law of the place reads the position, the route, the map and the station's state alone. -/
theorem PlaceLaw.of_same {s t : State} (h : PlaceLaw s) (hi : t.pos.index = s.pos.index) (ho : t.pos.offset = s.pos.offset)
    (hq : t.pos.quality = s.pos.quality) (he : t.route.entries = s.route.entries)
    (hm : ∀ g, t.map.lengthOf g = s.map.lengthOf g) (hst : t.ctl.state = .config → s.ctl.state = .config) : PlaceLaw t where
  placed := by rw [hi, hq]; exact h.placed
  config := fun hc => hi.trans (h.config (hst hc))
  within := fun i ht => by
    rw [he, ho]
    simp only [hm]
    exact h.within i (hi ▸ ht)

/-- Entries taken from the front leave the place on its entry. -/
theorem PlaceLaw.of_frame {s t : State} (hs : PlaceLaw s) (h : ReportFrame s t) : PlaceLaw t := by
  obtain ⟨k, hent, hidx, hk⟩ := h.consumed
  refine ⟨?_, fun hc => ?_, fun j hj => ?_⟩
  · rw [h.quality, ← hs.placed, hidx, Option.map_eq_none_iff]
  · rw [h.ctl] at hc
    rw [hidx, hs.config hc]
    rfl
  · rw [hidx] at hj
    obtain ⟨i, hi, rfl⟩ := Option.map_eq_some_iff.mp hj
    obtain ⟨e, he, hoff⟩ := hs.within i hi
    rw [hi] at hk
    refine ⟨e, ?_, by rwa [h.offset, h.map]⟩
    rw [hent, List.getElem?_drop, ← he]
    congr 1
    simp only [Option.getD_some] at hk
    omega

theorem Act.Reported.placeLaw {s t : State} (h : Act.Reported s t) (hs : PlaceLaw s) : PlaceLaw t := by
  cases h with
  | same c h => exact PlaceLaw.of_frame (s := { s with claim := c }) (hs.of_same rfl rfl rfl rfl (fun _ => rfl) id) h
  | turned c st timer hst hc h =>
    refine PlaceLaw.of_frame (s := { s with claim := c, ctl := { s.ctl with state := st, joinTimer := timer } })
      (hs.of_same rfl rfl rfl rfl (fun _ => rfl) fun hc' => ?_) h
    rcases hst with rfl | rfl <;> exact nomatch hc'

/-- Without a place there is nothing to keep. -/
theorem placeLaw_none (s : State) (hi : s.pos.index = none) (hq : s.pos.quality = .none) : PlaceLaw s :=
  ⟨by simp [hi, hq], fun _ => hi, by simp [hi]⟩

/-- In CONFIG the law says that there is no place (R40). -/
theorem PlaceLaw.in_config {s t : State} (hs : PlaceLaw s) (hc : s.ctl.state = .config) (ht : t.pos = s.pos) : PlaceLaw t :=
  placeLaw_none t (ht ▸ hs.config hc) (ht ▸ hs.placed.mp (hs.config hc))

theorem State.sealWalkEnd_segments (s : State) : s.sealWalkEnd.1.map.segments = s.map.segments := by
  unfold State.sealWalkEnd
  dsimp only
  split <;> rfl

theorem MapStore.lengthOf_segments {m n : MapStore} (h : n.segments = m.segments) (g : Nat) : n.lengthOf g = m.lengthOf g := by
  simp only [MapStore.lengthOf, MapStore.segment, h]

end Sys2Proof.Machine
end

section
/-! PROOFS. Movement along the route: where a movement ends, and what a credit makes of the record (02, R20, R24, R25, R35;
O37). -/

namespace Sys2Proof.Machine

/-! ### Where a movement ends (R24, R25) -/

theorem sum_take_succ (lens : List Nat) (i : Nat) : (lens.take (i + 1)).sum = (lens.take i).sum + lens.getD i 0 := by
  rw [List.take_add_one, List.sum_append, List.getD_eq_getElem?_getD]
  cases lens[i]? <;> simp

/-- Carrying along keeps the route distance, and stops beyond an entry's length only at the last entry. -/
theorem carryAhead_spec (lens : List Nat) (n i : Nat) (off : Int) (hi : i < lens.length) (hoff : 0 ≤ off)
    (hn : lens.length ≤ n + i + 1) :
    (carryAhead lens n i off).1 < lens.length ∧ 0 ≤ (carryAhead lens n i off).2 ∧
    ((lens.take (carryAhead lens n i off).1).sum : Int) + (carryAhead lens n i off).2 = (lens.take i).sum + off ∧
    ((lens.getD (carryAhead lens n i off).1 0 : Int) < (carryAhead lens n i off).2 →
      (carryAhead lens n i off).1 + 1 = lens.length) := by
  induction n generalizing i off with
  | zero => exact ⟨hi, hoff, rfl, fun _ => by simp only [carryAhead]; omega⟩
  | succ n ih =>
    unfold carryAhead
    split
    · rename_i h
      obtain ⟨h1, h2, h3, h4⟩ := ih (i + 1) (off - lens.getD i 0) h.2 (by omega) (by omega)
      refine ⟨h1, h2, ?_, h4⟩
      rw [h3, sum_take_succ]
      push_cast
      omega
    · rename_i h
      exact ⟨hi, hoff, rfl, fun hlt => by simp only at hlt ⊢; omega⟩

/-- Carrying against keeps the route distance, and stops below 0 only at the first entry. -/
theorem carryBack_spec (lens : List Nat) (n i : Nat) (off : Int) (hi : i < lens.length) (hoff : off ≤ lens.getD i 0)
    (hn : i ≤ n) :
    (carryBack lens n i off).1 < lens.length ∧ (carryBack lens n i off).2 ≤ lens.getD (carryBack lens n i off).1 0 ∧
    ((lens.take (carryBack lens n i off).1).sum : Int) + (carryBack lens n i off).2 = (lens.take i).sum + off ∧
    ((carryBack lens n i off).2 < 0 → (carryBack lens n i off).1 = 0) := by
  induction n generalizing i off with
  | zero => exact ⟨hi, hoff, rfl, fun _ => by simp only [carryBack]; omega⟩
  | succ n ih =>
    unfold carryBack
    split
    · rename_i h
      obtain ⟨j, rfl⟩ : ∃ j, i = j + 1 := ⟨i - 1, by omega⟩
      simp only [Nat.add_sub_cancel]
      obtain ⟨h1, h2, h3, h4⟩ := ih j (off + lens.getD j 0) (by omega) (by omega) (by omega)
      refine ⟨h1, h2, ?_, h4⟩
      rw [h3, sum_take_succ]
      push_cast
      omega
    · rename_i h
      exact ⟨hi, hoff, rfl, fun hlt => by simp only at hlt ⊢; omega⟩

/-- A movement along the route ends within an entry, at the distance moved less what was lost at the last entry's end. -/
theorem landing_ahead (lens : List Nat) (i off cm : Nat) (hi : i < lens.length) :
    (landing lens .ahead i off cm).index < lens.length ∧
    (landing lens .ahead i off cm).offset ≤ lens.getD (landing lens .ahead i off cm).index 0 ∧
    (lens.take (landing lens .ahead i off cm).index).sum + (landing lens .ahead i off cm).offset +
      (landing lens .ahead i off cm).lost = (lens.take i).sum + off + cm ∧
    (0 < (landing lens .ahead i off cm).lost → (landing lens .ahead i off cm).index + 1 = lens.length ∧
      (landing lens .ahead i off cm).offset = lens.getD (landing lens .ahead i off cm).index 0) := by
  obtain ⟨h1, h2, h3, h4⟩ := carryAhead_spec lens lens.length i ((off : Int) + cm) hi (by omega) (by omega)
  simp only [landing]
  generalize carryAhead lens lens.length i ((off : Int) + cm) = c at *
  exact ⟨h1, by omega, by omega, fun hlost => ⟨h4 (by omega), by omega⟩⟩

/-- A movement against the route ends within an entry, at the distance moved less what was lost at the first entry's start. -/
theorem landing_back (lens : List Nat) (i off cm : Nat) (hi : i < lens.length) (hoff : off ≤ lens.getD i 0) :
    (landing lens .back i off cm).index < lens.length ∧
    (landing lens .back i off cm).offset ≤ lens.getD (landing lens .back i off cm).index 0 ∧
    (lens.take (landing lens .back i off cm).index).sum + (landing lens .back i off cm).offset + cm =
      (lens.take i).sum + off + (landing lens .back i off cm).lost ∧
    (0 < (landing lens .back i off cm).lost → (landing lens .back i off cm).index = 0 ∧
      (landing lens .back i off cm).offset = 0) := by
  obtain ⟨h1, h2, h3, h4⟩ := carryBack_spec lens lens.length i ((off : Int) - cm) hi (by omega) (by omega)
  simp only [landing]
  generalize carryBack lens lens.length i ((off : Int) - cm) = c at *
  exact ⟨h1, by omega, by omega, fun hlost => ⟨h4 (by omega), by omega⟩⟩

/-- A movement from a place ends on an entry, within its length. -/
theorem landing_within (lens : List Nat) (sense : Sense) (i off cm : Nat) (hi : i < lens.length) (hoff : off ≤ lens.getD i 0) :
    (landing lens sense i off cm).index < lens.length ∧
    (landing lens sense i off cm).offset ≤ lens.getD (landing lens sense i off cm).index 0 := by
  cases sense with
  | ahead => exact ⟨(landing_ahead lens i off cm hi).1, (landing_ahead lens i off cm hi).2.1⟩
  | back => exact ⟨(landing_back lens i off cm hi hoff).1, (landing_back lens i off cm hi hoff).2.1⟩

/-! ### What a credit leaves (R20, R25, R35) -/

/-- A fall of the quality from GOOD, with its flag. -/
theorem State.dropQuality_good (c : Bool) (s : State) (h : c = true ∧ s.pos.quality = .good) :
    s.dropQuality c = { s with pos := { s.pos with quality := .doubtful } }.raise .qualityDrop := by
  simp [State.dropQuality, h.1, h.2]

theorem State.dropQuality_stays (c : Bool) (s : State) (h : ¬ (c = true ∧ s.pos.quality = .good)) : s.dropQuality c = s := by
  simp only [State.dropQuality, Bool.and_eq_true, beq_iff_eq, h, if_false]

/-- Without a place a credit clears the counts alone (R20). -/
theorem State.credit_unplaced (s : State) (h : s.pos.index = none) :
    s.credit = { s with odo := { s.odo with uncredited := 0, residue := 0 } } := by
  simp only [State.credit, h]

/-- Less than a centimetre joins the residue (R20). -/
theorem State.credit_residue (s : State) (i : Nat) (h : s.pos.index = some i) (hcm : s.creditHundredths / 100 = 0) :
    s.credit = { s with odo := { s.odo with uncredited := 0, residue := s.creditHundredths % 100 } } := by
  simp only [State.credit, h, hcm, if_true]

/-- The state with the centre moved by a credit, before the flags and the quality (R20, R24, R25). -/
def State.moved (i : Nat) (s : State) : State :=
  let l := landing s.entryLengths s.sense i s.pos.offset (s.creditHundredths / 100)
  { s with
    pos := { s.pos with index := some l.index, offset := l.offset,
                        sinceFix := sat16 (s.pos.sinceFix + (s.creditHundredths / 100 - l.lost)) },
    odo := { s.odo with uncredited := 0, residue := if 0 < l.lost then 0 else s.creditHundredths % 100 } }

/-- The part of a credit lost beyond the route's boundary (R25). -/
def State.creditLost (i : Nat) (s : State) : Nat :=
  (landing s.entryLengths s.sense i s.pos.offset (s.creditHundredths / 100)).lost

/-- A credit of a centimetre or more moves the centre, raises OVERRUN at a loss, and lets the quality fall at a loss or
past the fix gap (R20, R25, R35). -/
theorem State.credit_moved (s : State) (i : Nat) (h : s.pos.index = some i) (hcm : 0 < s.creditHundredths / 100) :
    s.credit = ((s.moved i).raiseIf (decide (0 < s.creditLost i)) .overrun).dropQuality
      (decide (0 < s.creditLost i) || decide (s.fixGap < (s.moved i).pos.sinceFix)) := by
  simp only [State.credit, h, Nat.ne_of_gt hcm, if_false, State.moveCentre]
  rfl

theorem State.raiseIf_pos (c : Bool) (e : Event) (s : State) : (s.raiseIf c e).pos = s.pos := by
  cases c <;> rfl

theorem State.flag_raiseIf (c : Bool) (e f : Event) (s : State) : (s.raiseIf c f).flag e = (s.flag e || (c && decide (e = f))) := by
  cases c
  · simp [State.raiseIf]
  · simp [State.raiseIf, State.flag_raise_eq]

theorem State.raiseIf_port_flags (c : Bool) (e : Event) (s : State) :
    { (s.raiseIf c e).port with flags := s.port.flags } = s.port := by
  cases c <;> rfl

/-- What a credit of a centimetre or more leaves, with its flags; `falls` stands for the conditions of R25 and R35 on a fall
of the quality. -/
theorem State.credit_placed (s : State) (i : Nat) (h : s.pos.index = some i) (hcm : 0 < s.creditHundredths / 100)
    (falls : Prop) [Decidable falls]
    (hfalls : falls ↔ s.pos.quality = .good ∧ (0 < s.creditLost i ∨ s.fixGap < (s.moved i).pos.sinceFix)) :
    ∃ port : CommandPort,
      s.credit = { s with
        pos := { (s.moved i).pos with quality := if falls then .doubtful else s.pos.quality },
        odo := (s.moved i).odo, port := port } ∧
      { port with flags := s.port.flags } = s.port ∧
      ∀ e, s.credit.flag e = (s.flag e || decide (e = .overrun ∧ 0 < s.creditLost i ∨ e = .qualityDrop ∧ falls)) := by
  rw [s.credit_moved i h hcm]
  generalize hlost : decide (0 < s.creditLost i) = lost
  have hl : 0 < s.creditLost i ↔ lost = true := by rw [← hlost, decide_eq_true_iff]
  have hqual : (s.moved i).pos.quality = s.pos.quality := rfl
  have hflag : ∀ e, (s.moved i).flag e = s.flag e := fun _ => rfl
  have hdrop : ((lost || decide (s.fixGap < (s.moved i).pos.sinceFix)) = true ∧
      ((s.moved i).raiseIf lost .overrun).pos.quality = .good) ↔ falls := by
    rw [State.raiseIf_pos, hqual, hfalls, hl, Bool.or_eq_true, decide_eq_true_iff, and_comm]
  by_cases hfall : falls
  · rw [State.dropQuality_good _ _ (hdrop.mpr hfall), if_pos hfall]
    refine ⟨(((s.moved i).raiseIf lost .overrun).raise .qualityDrop).port, ?_, ?_, fun e => ?_⟩
    · cases lost <;> rfl
    · cases lost <;> rfl
    · have hquality : ∀ u : State, ({ u with pos := { u.pos with quality := .doubtful } } : State).flag e = u.flag e :=
        fun _ => rfl
      rw [State.flag_raise_eq, hquality, State.flag_raiseIf, hflag]
      simp only [hl]
      cases lost <;> simp [hfall, Bool.or_assoc]
  · rw [State.dropQuality_stays _ _ (mt hdrop.mp hfall), if_neg hfall]
    refine ⟨((s.moved i).raiseIf lost .overrun).port, ?_, State.raiseIf_port_flags _ _ _, fun e => ?_⟩
    · cases lost <;> rfl
    · rw [State.flag_raiseIf, hflag]
      simp only [hl]
      cases lost <;> simp [hfall]

/-- Settles O37: the landing of a movement, and the three cases of a credit. -/
theorem creditLands : Obligations.CreditLands :=
  ⟨fun lens i off cm hi hoff => ⟨landing_ahead lens i off cm hi, landing_back lens i off cm hi hoff⟩,
   fun s h => s.credit_unplaced h,
   fun s i h => ⟨fun hcm => s.credit_placed i h hcm _ Iff.rfl, fun hcm => s.credit_residue i h hcm⟩⟩

end Sys2Proof.Machine
end

section
/-! PROOFS. The invariants of the place and of the map (O58, O59). -/

namespace Sys2Proof.Machine

/-! ### The place (R23) -/

theorem State.entryLengths_getD (s : State) (i : Nat) (e : RouteEntry) (h : s.route.entries[i]? = some e) :
    s.entryLengths.getD i 0 = s.map.lengthOf e.seg := by
  simp [State.entryLengths, List.getD_eq_getElem?_getD, h]

theorem State.entryLengths_length (s : State) : s.entryLengths.length = s.route.entries.length := by
  simp [State.entryLengths]

/-- A place on a held entry within its segment, with a quality. -/
theorem placeLaw_some (s : State) (i : Nat) (e : RouteEntry) (hi : s.pos.index = some i) (hq : s.pos.quality ≠ .none)
    (hc : s.ctl.state ≠ .config) (he : s.route.entries[i]? = some e) (ho : s.pos.offset ≤ s.map.lengthOf e.seg) : PlaceLaw s where
  placed := by simp [hi, hq]
  config := fun h => absurd h hc
  within := fun j hj => by
    obtain rfl := Option.some.inj (hi.symm.trans hj)
    exact ⟨e, he, ho⟩

/-- A station with a place is not in CONFIG (R40). -/
theorem PlaceLaw.not_config {s : State} (hs : PlaceLaw s) {i : Nat} (hi : s.pos.index = some i) : s.ctl.state ≠ .config :=
  fun hc => nomatch (hs.config hc).symm.trans hi

theorem PlaceLaw.quality {s : State} (hs : PlaceLaw s) {i : Nat} (hi : s.pos.index = some i) : s.pos.quality ≠ .none :=
  fun hq => nomatch (hs.placed.mpr hq).symm.trans hi

/-- A credit ends on a held entry within its segment (R24, R25). -/
theorem State.credit_placeLaw (s : State) (hs : PlaceLaw s) : PlaceLaw s.credit := by
  cases hi : s.pos.index with
  | none =>
    rw [s.credit_unplaced hi]
    exact hs.of_same rfl rfl rfl rfl (fun _ => rfl) id
  | some i =>
    rcases Nat.eq_zero_or_pos (s.creditHundredths / 100) with hcm | hcm
    · rw [s.credit_residue i hi hcm]
      exact hs.of_same rfl rfl rfl rfl (fun _ => rfl) id
    · obtain ⟨e, he, hoff⟩ := hs.within i hi
      have hlt : i < s.entryLengths.length := s.entryLengths_length ▸ (List.getElem?_eq_some_iff.mp he).1
      obtain ⟨hidx, hwithin⟩ := landing_within s.entryLengths s.sense i s.pos.offset (s.creditHundredths / 100) hlt
        (by rwa [s.entryLengths_getD i e he])
      rw [s.entryLengths_length] at hidx
      have hent := List.getElem?_eq_getElem hidx
      rw [s.entryLengths_getD _ _ hent] at hwithin
      obtain ⟨port, hcredit, -, -⟩ := s.credit_placed i hi hcm _ Iff.rfl
      rw [hcredit]
      refine placeLaw_some _ _ _ rfl ?_ (hs.not_config hi) hent hwithin
      dsimp only
      split
      · exact nofun
      · exact hs.quality hi

/-- An entry of the placed spans is the route's at its index, and the span is as long as its segment (R23). -/
theorem spansFrom_mem {m : MapStore} {i : Nat} {d : Int} {l : List RouteEntry} {p : Span} (h : p ∈ spansFrom m i d l) :
    i ≤ p.index ∧ (∃ e, l[p.index - i]? = some e ∧ p.seg = e.seg ∧ p.sign = e.sign) ∧
      p.stop = p.start + m.lengthOf p.seg := by
  induction l generalizing i d with
  | nil => exact nomatch h
  | cons e rest ih =>
    rcases List.mem_cons.mp h with rfl | h
    · exact ⟨le_rfl, ⟨e, by simp, rfl, rfl⟩, rfl⟩
    · obtain ⟨h1, ⟨x, hx, hseg⟩, h2⟩ := ih h
      refine ⟨by omega, ⟨x, ?_, hseg⟩, h2⟩
      rw [show p.index - i = (p.index - (i + 1)) + 1 by omega, List.getElem?_cons_succ]
      exact hx

theorem State.spans_mem {s : State} {p : Span} (h : p ∈ s.spans) :
    (∃ e, s.route.entries[p.index]? = some e ∧ p.seg = e.seg ∧ p.sign = e.sign) ∧ p.stop = p.start + s.map.lengthOf p.seg := by
  obtain ⟨-, h1, h2⟩ := spansFrom_mem h
  exact ⟨h1, h2⟩

/-- A fix lands on a held entry within its segment (R29). -/
theorem State.acceptFix_placeLaw (fix : Int) (s : State) (hc : s.ctl.state ≠ .config) (hs : PlaceLaw s) :
    PlaceLaw (s.acceptFix fix) := by
  unfold State.acceptFix
  split
  · exact hs
  · rename_i p hp
    obtain ⟨⟨e, he, hseg, -⟩, hstop⟩ := State.spans_mem (List.mem_of_find?_eq_some hp)
    have hle : fix ≤ p.stop := by simpa using List.find?_some hp
    refine placeLaw_some _ p.index e rfl nofun hc he ?_
    dsimp only
    rw [← hseg]
    omega

/-- A fall of the quality keeps the place. -/
theorem State.dropQuality_placeLaw (c : Bool) (s : State) (hs : PlaceLaw s) : PlaceLaw (s.dropQuality c) := by
  by_cases h : c = true ∧ s.pos.quality = .good
  · rw [State.dropQuality_good c s h]
    refine ⟨⟨fun hi => ?_, nofun⟩, hs.config, hs.within⟩
    exact nomatch h.2.symm.trans (hs.placed.mp hi)
  · rwa [State.dropQuality_stays c s h]

/-- The centre is placed on an entry, so there is a place. -/
theorem State.index_of_centre {s : State} (h : s.centre.isSome = true) : s.pos.index ≠ none := by
  intro hi
  cases hq : s.pos.quality <;> simp [State.centre, State.currentSpan, hi, hq] at h

theorem State.seed_placeLaw (seg off : Nat) (sign : Sign) (s : State) (hc : s.ctl.state ≠ .config) :
    PlaceLaw (s.seed seg off sign) := by
  refine placeLaw_some _ 0 { seg := seg, sign := sign } rfl nofun hc rfl ?_
  cases sign
  · exact Nat.min_le_right _ _
  · exact Nat.sub_le _ _

theorem Act.placeLaw {s t : State} (hact : Act s t) (hs : PlaceLaw s) : PlaceLaw t := by
  cases hact
  case aside h =>
    exact hs.of_same h.index h.offset h.quality h.entries (fun _ => by rw [h.map]) fun hc => by rwa [h.ctl] at hc
  case widthEnd => rw [s.widthEnd_eq]; exact hs.of_same rfl rfl rfl rfl (fun _ => rfl) id
  case walkEnd =>
    rw [s.sealWalkEnd_eq]
    exact hs.of_same rfl rfl rfl rfl (MapStore.lengthOf_segments s.sealWalkEnd_segments) id
  case mapWrite m b hc h => exact hs.in_config hc rfl
  case credit => exact s.credit_placeLaw hs
  case coreFix h =>
    exact ⟨⟨fun hi => absurd hi (State.index_of_centre (s := s) h), nofun⟩, hs.config, hs.within⟩
  case acceptFix fix hc => exact s.acceptFix_placeLaw fix hc hs
  case rejectFix err => exact State.dropQuality_placeLaw _ _ (hs.of_same rfl rfl rfl rfl (fun _ => rfl) id)
  case seed seg off sign hc => exact s.seed_placeLaw seg off sign hc
  case route r hl hk =>
    refine ⟨hs.placed, hs.config, fun i hi => ?_⟩
    obtain ⟨e, he, hoff⟩ := hs.within i hi
    exact ⟨e, hk (hs.quality hi) i e hi he, hoff⟩
  case enter st timer hr hst hm =>
    exact hs.of_same rfl rfl rfl rfl (fun _ => rfl) fun hc => by rcases hst with rfl | rfl <;> exact nomatch hc
  case report own exam h => exact (Act.report_reported h exam).placeLaw hs
  case guided own h => exact (Act.guided_reported h).placeLaw hs
  case reportPosition => exact (Act.reportPosition_reported s).placeLaw hs
  case reportRoute => exact (Act.reportRoute_reported s).placeLaw hs
  case recompute => exact (Act.recompute_reported s).placeLaw hs
  case depart hc => exact (Act.depart_reported s hc).placeLaw hs
  case offLine h => exact (Act.offLine_reported s h).placeLaw hs
  case periodBegin | resetAssert | station | tuning | peers => exact hs.of_same rfl rfl rfl rfl (fun _ => rfl) id

/-- Settles O58: each act that moves the centre or the route under it lands on a held entry within its segment. -/
theorem placeInvariant : Obligations.PlaceInvariant := fun _ _ hs h =>
  step_keeps (P := PlaceLaw) (fun _ _ hact hu => hact.placeLaw hu) (fun _ _ _ _ => placeLaw_none _ rfl rfl)
    (fun _ _ _ _ _ => placeLaw_none _ rfl rfl) (fun _ _ hu => hu.of_same rfl rfl rfl rfl (fun _ => rfl) id) hs h

/-! ### The seal (R11, R12, R17) -/

theorem SealLaw.of_same {s t : State} (h : SealLaw s) (hm : t.map = s.map)
    (hst : t.ctl.state ≠ .config → s.ctl.state ≠ .config) : SealLaw t where
  checked := hm ▸ h.checked
  walk := hm ▸ h.walk
  started := fun hc => hm ▸ h.started (hst hc)

/-- In CONFIG the law speaks of the map alone. -/
theorem sealLaw_config (t : State) (hc : t.ctl.state = .config) (h1 : t.map.isSealed = true → t.map.sealFault = none)
    (h2 : t.map.sealing = true → t.map.isSealed = false) : SealLaw t :=
  ⟨h1, h2, fun h => absurd hc h⟩

/-- The checks read the tables and the crane list. -/
theorem MapStore.sealFault_congr {m n : MapStore} (h1 : n.segments = m.segments) (h2 : n.windows = m.windows)
    (h3 : n.cranes = m.cranes) (h4 : n.tags = m.tags) : n.sealFault = m.sealFault := by
  obtain ⟨segs, wins, cranes, tags, sealed, sc, tc, wc, sl⟩ := m
  obtain ⟨segs', wins', cranes', tags', sealed', sc', tc', wc', sl'⟩ := n
  cases h1; cases h2; cases h3; cases h4
  rfl

/-- A map command leaves an unsealed map, but for a window's setting and a disregarded write, which leave the contents;
it starts a walk over an unsealed map alone (R11, R12). -/
theorem MapWrite.seal {m n : MapStore} (h : MapWrite m n) (h1 : m.isSealed = true → m.sealFault = none)
    (h2 : m.sealing = true → m.isSealed = false) :
    (n.isSealed = true → n.sealFault = none) ∧ (n.sealing = true → n.isSealed = false) := by
  cases h
  case segWindow | tagWindow | winMiss => exact ⟨h1, h2⟩
  case segment | tag | window | cranes => exact ⟨nofun, fun _ => rfl⟩
  case walk h => exact ⟨h1, fun _ => h⟩
  case clear => exact ⟨nofun, nofun⟩

/-- The end of a walk seals a map on which no check fails, and the walk is over (R12). -/
theorem State.sealWalkEnd_seal (s : State) :
    (s.sealWalkEnd.1.map.isSealed = true → s.map.isSealed = true ∨ s.sealWalkEnd.1.map.sealFault = none) ∧
      s.sealWalkEnd.1.map.sealing = false ∧ (s.map.isSealed = true → s.sealWalkEnd.1.map.isSealed = true) := by
  unfold State.sealWalkEnd
  dsimp only
  split
  · exact ⟨.inl, rfl, id⟩
  · rename_i h
    exact ⟨fun _ => .inr h, rfl, fun _ => rfl⟩

theorem State.sealWalkEnd_contents (s : State) :
    s.sealWalkEnd.1.map.segments = s.map.segments ∧ s.sealWalkEnd.1.map.windows = s.map.windows ∧
    s.sealWalkEnd.1.map.cranes = s.map.cranes ∧ s.sealWalkEnd.1.map.tags = s.map.tags := by
  unfold State.sealWalkEnd
  dsimp only
  split <;> exact ⟨rfl, rfl, rfl, rfl⟩

theorem Act.Reported.sealLaw {s t : State} (h : Act.Reported s t) (hs : SealLaw s) : SealLaw t := by
  cases h with
  | same c h => exact hs.of_same h.map fun hc => by rwa [h.ctl] at hc
  | turned c st timer hst hc h => exact hs.of_same h.map fun _ => hc

theorem Act.sealLaw {s t : State} (hact : Act s t) (hs : SealLaw s) : SealLaw t := by
  cases hact
  case aside h => exact hs.of_same h.map fun hc => by rwa [h.ctl] at hc
  case widthEnd => rw [s.widthEnd_eq]; exact hs.of_same rfl id
  case walkEnd hw =>
    obtain ⟨h1, h2, -⟩ := s.sealWalkEnd_seal
    obtain ⟨c1, c2, c3, c4⟩ := s.sealWalkEnd_contents
    have hconf : s.ctl.state = .config := by
      by_contra hc
      exact nomatch (hs.walk hw).symm.trans (hs.started hc)
    refine sealLaw_config _ (by rw [s.sealWalkEnd_eq]; exact hconf) (fun h => ?_) fun h => nomatch h2.symm.trans h
    rcases h1 h with hold | hnew
    · rw [MapStore.sealFault_congr c1 c2 c3 c4]
      exact hs.checked hold
    · exact hnew
  case mapWrite m b hc h =>
    obtain ⟨h1, h2⟩ := h.seal hs.checked hs.walk
    exact sealLaw_config _ hc h1 h2
  case credit => rw [s.credit_eq]; exact hs.of_same rfl id
  case acceptFix fix _ => rw [s.acceptFix_eq]; exact hs.of_same rfl id
  case rejectFix err => rw [s.rejectFix_eq]; exact hs.of_same rfl id
  case enter st timer hr hst hm =>
    refine ⟨hs.checked, hs.walk, fun _ => ?_⟩
    by_cases hc : s.ctl.state = .config
    · exact hm hc
    · exact hs.started hc
  case report own exam h => exact (Act.report_reported h exam).sealLaw hs
  case guided own h => exact (Act.guided_reported h).sealLaw hs
  case reportPosition => exact (Act.reportPosition_reported s).sealLaw hs
  case reportRoute => exact (Act.reportRoute_reported s).sealLaw hs
  case recompute => exact (Act.recompute_reported s).sealLaw hs
  case depart hc => exact (Act.depart_reported s hc).sealLaw hs
  case offLine h => exact (Act.offLine_reported s h).sealLaw hs
  case periodBegin | resetAssert | station | tuning | coreFix | seed | route | peers => exact hs.of_same rfl id

theorem step_sealLaw {s t : State} (hs : SealLaw s) (h : step s = .next t) : SealLaw t :=
  step_keeps (P := SealLaw) (fun _ _ hact hu => hact.sealLaw hu) (fun _ _ _ _ => sealLaw_config _ rfl nofun nofun)
    (fun _ _ hc _ hu => sealLaw_config _ hc (fun hsealed => hu.checked hsealed) nofun)
    (fun _ _ hu => hu.of_same rfl id) hs h

/-! ### The form of the tables (R2, R5, R7) -/

theorem Cursor.not_past {c : Cursor} (h : c.past = false) : c.counter ≤ c.last := by
  simpa [Cursor.past] using h

theorem tableDrop_slots {α : Type} (k : Nat) (t : List (Nat × α)) (p : Nat × α) (h : p ∈ tableDrop k t) : p ∈ t :=
  (List.mem_filter.mp h).1

/-- A write or an emptying at a slot in range keeps a table's slots in range. -/
theorem tableWrite_slots {α : Type} (c : Prop) [Decidable c] (k top : Nat) (v : α) (t : List (Nat × α)) (hk : k ≤ top)
    (ht : ∀ p ∈ t, p.1 ≤ top) : ∀ p ∈ (if c then tableDrop k t else tablePut k v t), p.1 ≤ top := by
  intro p hp
  split at hp
  · exact ht p (tableDrop_slots k t p hp)
  · rcases tablePut_slots k v t p hp with h | h
    · exact h ▸ hk
    · exact ht p h

theorem tableWrite_wf {α : Type} (c : Prop) [Decidable c] (k : Nat) (v : α) (t : List (Nat × α)) (ht : tableWf t = true) :
    tableWf (if c then tableDrop k t else tablePut k v t) = true := by
  split
  · exact tableDrop_wf k t ht
  · exact tablePut_wf k v t ht

theorem tablesLaw_powerOn : TablesLaw .powerOn where
  segments := rfl
  windows := rfl
  tags := rfl
  segmentSlots := nofun
  windowSlots := nofun
  tagSlots := nofun
  segmentTop := le_rfl
  windowTop := le_rfl
  tagTop := le_rfl

theorem MapWrite.tablesLaw {m n : MapStore} (h : MapWrite m n) (hm : TablesLaw m) : TablesLaw n := by
  cases h
  case segWindow c h => exact { hm with segmentTop := h.elim (fun h => h.trans hm.segmentTop) id }
  case tagWindow c h => exact { hm with tagTop := h.elim (fun h => h.trans hm.tagTop) id }
  case winMiss c h => exact { hm with windowTop := h.le.trans hm.windowTop }
  case segment g h =>
    exact { hm with
      segments := tableWrite_wf _ _ _ _ hm.segments
      segmentSlots := tableWrite_slots _ _ _ _ _ ((Cursor.not_past h).trans hm.segmentTop) hm.segmentSlots }
  case tag t h =>
    exact { hm with
      tags := tableWrite_wf _ _ _ _ hm.tags
      tagSlots := tableWrite_slots _ _ _ _ _ ((Cursor.not_past h).trans hm.tagTop) hm.tagSlots }
  case window w h =>
    exact { hm with
      windows := tableWrite_wf _ _ _ _ hm.windows
      windowSlots := tableWrite_slots _ _ _ _ _ ((Cursor.not_past h).trans hm.windowTop) hm.windowSlots }
  case cranes | walk => exact { hm with }
  case clear => exact tablesLaw_powerOn

theorem State.sealWalkEnd_tablesLaw (s : State) (hs : TablesLaw s.map) : TablesLaw s.sealWalkEnd.1.map := by
  unfold State.sealWalkEnd
  dsimp only
  split <;> exact { hs with }

/-- What an act does to the map: a map command writes it in CONFIG, the end of a walk sets its seal, every other act
leaves it. -/
theorem Act.map_cases {s t : State} (hact : Act s t) :
    t.map = s.map ∨ (s.ctl.state = .config ∧ MapWrite s.map t.map) ∨ t = s.sealWalkEnd.1 := by
  have hreported : ∀ {u : State}, Act.Reported s u → u.map = s.map := fun h => by
    cases h with
    | same c h => exact h.map
    | turned c st timer hst hc h => exact h.map
  cases hact
  case aside h => exact .inl h.map
  case mapWrite m b hc h => exact .inr (.inl ⟨hc, h⟩)
  case walkEnd => exact .inr (.inr rfl)
  case widthEnd => exact .inl (congrArg State.map s.widthEnd_eq :)
  case credit => exact .inl (congrArg State.map s.credit_eq :)
  case acceptFix fix _ => exact .inl (congrArg State.map (s.acceptFix_eq fix) :)
  case rejectFix err => exact .inl (congrArg State.map (s.rejectFix_eq err) :)
  case report own exam h => exact .inl (hreported (Act.report_reported h exam))
  case guided own h => exact .inl (hreported (Act.guided_reported h))
  case reportPosition => exact .inl (hreported (Act.reportPosition_reported s))
  case reportRoute => exact .inl (hreported (Act.reportRoute_reported s))
  case recompute => exact .inl (hreported (Act.recompute_reported s))
  case depart hc => exact .inl (hreported (Act.depart_reported s hc))
  case offLine h => exact .inl (hreported (Act.offLine_reported s h))
  case periodBegin | resetAssert | station | tuning | coreFix | seed | route | peers | enter => exact .inl rfl

theorem Act.tablesLaw {s t : State} (hact : Act s t) (hs : TablesLaw s.map) : TablesLaw t.map := by
  obtain h | ⟨-, h⟩ | rfl := hact.map_cases
  · exact h ▸ hs
  · exact h.tablesLaw hs
  · exact s.sealWalkEnd_tablesLaw hs

theorem step_tablesLaw {s t : State} (hs : TablesLaw s.map) (h : step s = .next t) : TablesLaw t.map :=
  step_keeps (P := fun u => TablesLaw u.map) (fun _ _ hact hu => hact.tablesLaw hu) (fun _ _ _ _ => tablesLaw_powerOn)
    (fun _ _ _ _ hu => { hu with segmentTop := le_rfl, windowTop := le_rfl, tagTop := le_rfl })
    (fun _ _ hu => hu) hs h

/-! ### The map out of CONFIG (R17) -/

/-- The map's contents: its three tables and its crane list. -/
def MapStore.contents (m : MapStore) : List (Nat × Segment) × List (Nat × SlowWindow) × List Nat × List (Nat × Tag) :=
  (m.segments, m.windows, m.cranes, m.tags)

theorem MapStore.contents_eq {m n : MapStore} (h : n.contents = m.contents) :
    n.segments = m.segments ∧ n.windows = m.windows ∧ n.cranes = m.cranes ∧ n.tags = m.tags := by
  simpa [MapStore.contents] using h

theorem State.sealWalkEnd_kept (s : State) : s.sealWalkEnd.1.map.contents = s.map.contents := by
  obtain ⟨h1, h2, h3, h4⟩ := s.sealWalkEnd_contents
  simp only [MapStore.contents, h1, h2, h3, h4]

/-- Out of CONFIG an act leaves the station out of CONFIG. -/
theorem Act.not_config {s t : State} (hact : Act s t) (hc : s.ctl.state ≠ .config) : t.ctl.state ≠ .config := by
  have hreported : ∀ {u : State}, Act.Reported s u → u.ctl.state ≠ .config := fun h => by
    cases h with
    | same c h => rwa [h.ctl]
    | turned c st timer hst hc h =>
      rw [h.ctl]
      rcases hst with rfl | rfl <;> exact nofun
  cases hact
  case aside h => rwa [h.ctl]
  case widthEnd => rwa [s.widthEnd_eq]
  case walkEnd => rwa [s.sealWalkEnd_eq]
  case credit => rwa [s.credit_eq]
  case acceptFix fix _ => rwa [s.acceptFix_eq]
  case rejectFix err => rwa [s.rejectFix_eq]
  case enter st timer hr hst hm => rcases hst with rfl | rfl <;> exact nofun
  case report own exam h => exact hreported (Act.report_reported h exam)
  case guided own h => exact hreported (Act.guided_reported h)
  case reportPosition => exact hreported (Act.reportPosition_reported s)
  case reportRoute => exact hreported (Act.reportRoute_reported s)
  case recompute => exact hreported (Act.recompute_reported s)
  case depart hc => exact hreported (Act.depart_reported s hc)
  case offLine h => exact hreported (Act.offLine_reported s h)
  case periodBegin | resetAssert | mapWrite | station | tuning | coreFix | seed | route | peers => exact hc

theorem Acts.contents {s t : State} (hacts : Acts s t) (hc : s.ctl.state ≠ .config) : t.map.contents = s.map.contents := by
  refine (hacts.keep (P := fun u => u.ctl.state ≠ .config ∧ u.map.contents = s.map.contents) ?_ ⟨hc, rfl⟩).2
  rintro u v hact ⟨hu, hmap⟩
  refine ⟨hact.not_config hu, ?_⟩
  obtain h | ⟨h, -⟩ | rfl := hact.map_cases
  · rw [h, hmap]
  · exact absurd h hu
  · rw [State.sealWalkEnd_kept, hmap]

theorem exec_contents (c : Instr) (s t : State) (hc : s.ctl.state ≠ .config) (hp : ∀ a b d, c ≠ .powerOn a b d)
    (hr : (∀ a b, c ≠ .resetLineRelease a b) ∨ s.pins.powerOnHeld = false) (h : exec c s = .next t) :
    t.map.contents = s.map.contents := by
  obtain hreset | ⟨u, hacts, rfl | rfl⟩ := exec_cases c s t h
  · cases hreset with
    | powerOn id along high => exact absurd rfl (hp id along high)
    | release id along =>
      have hheld : s.pins.powerOnHeld = false := hr.resolve_left fun hn => hn id along rfl
      simp only [State.resetRelease, hheld]
      rfl
  · exact hacts.contents hc
  · exact hacts.contents hc

/-- Settles O59: the seal and the tables act by act, and the contents out of CONFIG along the chain of acts. -/
theorem mapInvariant : Obligations.MapInvariant :=
  ⟨fun _ _ hs h => step_sealLaw hs h, fun _ _ hs h => step_tablesLaw hs h,
   fun c s t hc hp hr h => MapStore.contents_eq (exec_contents c s t hc hp hr h)⟩

end Sys2Proof.Machine
end

section
/-! PROOFS. The own claim list as a list: the counts, the ids and the order of the entries under each operation of the
Claim Unit (06). -/

namespace Sys2Proof.Machine

/-! ### Ids and counts -/

theorem Claim.isHeld_iff (e : Claim) : e.isHeld = true ↔ e.state = .held := by
  simp [Claim.isHeld]

theorem Claim.isHeld_false_iff (e : Claim) : e.isHeld = false ↔ e.state = .wanted := by
  cases h : e.state <;> simp [Claim.isHeld, h]

theorem mem_heldIds {l : List Claim} {g : Nat} : g ∈ heldIds l ↔ ∃ e ∈ l, e.isHeld = true ∧ e.seg = g := by
  simp [heldIds, and_assoc]

theorem heldIds_cons (e : Claim) (l : List Claim) : heldIds (e :: l) = if e.isHeld then e.seg :: heldIds l else heldIds l := by
  cases h : e.isHeld <;> simp [heldIds, h]

theorem heldIds_append (l r : List Claim) : heldIds (l ++ r) = heldIds l ++ heldIds r := by
  simp [heldIds]

theorem wantedCount_cons (e : Claim) (l : List Claim) :
    wantedCount (e :: l) = wantedCount l + if e.isHeld then 0 else 1 := by
  cases h : e.isHeld <;> simp [wantedCount, h]

theorem heldCount_cons (e : Claim) (l : List Claim) : heldCount (e :: l) = heldCount l + if e.isHeld then 1 else 0 := by
  cases h : e.isHeld <;> simp [heldCount, h]

theorem wantedCount_append (l r : List Claim) : wantedCount (l ++ r) = wantedCount l + wantedCount r := by
  simp [wantedCount]

theorem heldCount_append (l r : List Claim) : heldCount (l ++ r) = heldCount l + heldCount r := by
  simp [heldCount]

@[simp] theorem wantedCount_nil : wantedCount [] = 0 := rfl

@[simp] theorem heldCount_nil : heldCount [] = 0 := rfl

/-- Every entry is HELD or WANTED. -/
theorem heldCount_add_wantedCount (l : List Claim) : heldCount l + wantedCount l = l.length := by
  induction l with
  | nil => rfl
  | cons e l ih =>
    rw [heldCount_cons, wantedCount_cons, List.length_cons]
    cases e.isHeld <;> simp <;> omega

theorem wantedCount_le_length (l : List Claim) : wantedCount l ≤ l.length := List.length_filter_le _ _

theorem wantedCount_sublist {l r : List Claim} (h : l.Sublist r) : wantedCount l ≤ wantedCount r := (h.filter _).length_le

theorem heldCount_sublist {l r : List Claim} (h : l.Sublist r) : heldCount l ≤ heldCount r := (h.filter _).length_le

theorem wantedCount_perm {l r : List Claim} (h : l.Perm r) : wantedCount l = wantedCount r := (h.filter _).length_eq

theorem heldCount_perm {l r : List Claim} (h : l.Perm r) : heldCount l = heldCount r := (h.filter _).length_eq

/-! ### Lists that differ beside segment and state -/

/-- The segments and the states of a list, in order. -/
def claimMarks (l : List Claim) : List (Nat × ClaimState) := l.map (fun e => (e.seg, e.state))

theorem segs_of_marks {l r : List Claim} (h : claimMarks l = claimMarks r) : l.map (·.seg) = r.map (·.seg) := by
  have := congrArg (List.map Prod.fst) h
  simpa [claimMarks, Function.comp_def] using this

theorem claimMarks_cons (e : Claim) (l : List Claim) : claimMarks (e :: l) = (e.seg, e.state) :: claimMarks l := rfl

theorem heldIds_marks (l : List Claim) : heldIds l = ((claimMarks l).filter (fun p => p.2 == .held)).map Prod.fst := by
  simp [heldIds, claimMarks, List.filter_map, Function.comp_def, Claim.isHeld]

theorem heldIds_of_marks {l r : List Claim} (h : claimMarks l = claimMarks r) : heldIds l = heldIds r := by
  rw [heldIds_marks, heldIds_marks, h]

theorem wantedIds_marks (l : List Claim) : wantedIds l = ((claimMarks l).filter (fun p => !(p.2 == .held))).map Prod.fst := by
  simp [wantedIds, claimMarks, List.filter_map, Function.comp_def, Claim.isHeld]

theorem wantedIds_length (l : List Claim) : (wantedIds l).length = wantedCount l := by
  simp [wantedIds, wantedCount]

theorem heldIds_length (l : List Claim) : (heldIds l).length = heldCount l := by
  simp [heldIds, heldCount]

theorem wantedCount_of_marks {l r : List Claim} (h : claimMarks l = claimMarks r) : wantedCount l = wantedCount r := by
  rw [← wantedIds_length, ← wantedIds_length, wantedIds_marks, wantedIds_marks, h]

/-- A change of each entry beside its segment and its state. -/
theorem claimMarks_map (f : Claim → Claim) (l : List Claim) (h : ∀ e, (f e).seg = e.seg ∧ (f e).state = e.state) :
    claimMarks (l.map f) = claimMarks l := by
  simp only [claimMarks, List.map_map]
  exact List.map_congr_left fun e _ => by simp [(h e).1, (h e).2]

theorem claimMarks_shift (d : Int) (l : List Claim) : claimMarks (l.map (Claim.shift d)) = claimMarks l :=
  claimMarks_map _ _ fun _ => ⟨rfl, rfl⟩

theorem claimMarks_settleWaits (now : Nat) (l : List Claim) : claimMarks (settleWaits now l) = claimMarks l := by
  induction l with
  | nil => rfl
  | cons e rest ih =>
    unfold settleWaits
    split
    · rw [claimMarks_cons, ih]
      rfl
    · rw [claimMarks_cons, claimMarks_map (fun x => { x with waitStart := none }) rest fun _ => ⟨rfl, rfl⟩]
      rfl

/-! ### Turning back and dropping (R106, R107) -/

/-- The last entry that satisfies a predicate, changed: the list around it. -/
theorem mapLast_some {p : Claim → Bool} {f : Claim → List Claim} {l r : List Claim} (h : mapLast p f l = some r) :
    ∃ pre x post, l = pre ++ x :: post ∧ p x = true ∧ (∀ y ∈ post, p y = false) ∧ r = pre ++ (f x ++ post) := by
  induction l generalizing r with
  | nil => exact nomatch h
  | cons e rest ih =>
    unfold mapLast at h
    split at h
    · rename_i rest' hrest
      obtain ⟨pre, x, post, rfl, hx, hpost, rfl⟩ := ih hrest
      cases h
      exact ⟨e :: pre, x, post, rfl, hx, hpost, rfl⟩
    · rename_i hnone
      split at h
      · rename_i hp
        cases h
        refine ⟨[], e, rest, rfl, hp, fun y hy => ?_, rfl⟩
        by_contra hcon
        have hsome : ∀ l : List Claim, y ∈ l → mapLast p f l ≠ none := by
          intro l hl
          induction l with
          | nil => exact nomatch hl
          | cons z l ih =>
            unfold mapLast
            rcases List.mem_cons.mp hl with rfl | hl
            · split
              · exact nofun
              · simp [Bool.eq_true_of_not_eq_false hcon]
            · split
              · exact nofun
              · rename_i hz
                exact absurd hz (ih hl)
        exact hsome rest hy hnone
      · exact nomatch h

theorem mapLast_none {p : Claim → Bool} {f : Claim → List Claim} {l : List Claim} :
    mapLast p f l = none ↔ ∀ x ∈ l, p x = false := by
  induction l with
  | nil => simp [mapLast]
  | cons e rest ih =>
    unfold mapLast
    split
    · rename_i rest' h
      simp only [reduceCtorEq, List.forall_mem_cons, false_iff, not_and]
      intro _ hall
      exact nomatch (ih.mpr hall).symm.trans h
    · rename_i h
      cases hp : p e
      · simpa [hp] using ih.mp h
      · simp [hp]

/-- Dropping the farthest WANTED entry takes one WANTED entry out. -/
theorem dropFarthest_cases (l : List Claim) : (wantedCount l = 0 ∧ dropFarthest l = l) ∨
    ∃ pre x post, l = pre ++ x :: post ∧ x.isHeld = false ∧ (∀ y ∈ post, y.isHeld = true) ∧ dropFarthest l = pre ++ post := by
  unfold dropFarthest
  split
  · rename_i l' h
    obtain ⟨pre, x, post, rfl, hx, hpost, rfl⟩ := mapLast_some h
    exact .inr ⟨pre, x, post, rfl, by simpa using hx, fun y hy => by simpa using hpost y hy, rfl⟩
  · rename_i h
    refine .inl ⟨?_, rfl⟩
    rw [wantedCount, List.length_eq_zero_iff, List.filter_eq_nil_iff]
    exact fun x hx => by simpa using mapLast_none.mp h x hx

theorem dropFarthest_sublist (l : List Claim) : (dropFarthest l).Sublist l := by
  obtain ⟨-, h⟩ | ⟨pre, x, post, rfl, -, -, h⟩ := dropFarthest_cases l
  · rw [h]
  · rw [h]
    exact (List.sublist_cons_self x post).append_left pre

theorem dropFarthest_held (l : List Claim) : (dropFarthest l).filter (·.isHeld) = l.filter (·.isHeld) := by
  obtain ⟨-, h⟩ | ⟨pre, x, post, rfl, hx, -, h⟩ := dropFarthest_cases l
  · rw [h]
  · simp [h, hx]

theorem dropFarthest_count (l : List Claim) : wantedCount (dropFarthest l) = wantedCount l - 1 := by
  obtain ⟨h0, h⟩ | ⟨pre, x, post, rfl, hx, -, h⟩ := dropFarthest_cases l
  · rw [h, h0]
  · rw [h, wantedCount_append, wantedCount_append, wantedCount_cons, hx]
    simp only [Bool.false_eq_true, if_false]
    omega

theorem dropExcess_sublist (n : Nat) (l : List Claim) : (dropExcess n l).Sublist l := by
  induction n generalizing l with
  | zero => exact .refl l
  | succ n ih =>
    unfold dropExcess
    split
    · exact (ih _).trans (dropFarthest_sublist l)
    · exact .refl l

/-- Dropping takes no HELD entry (R106). -/
theorem dropExcess_held (n : Nat) (l : List Claim) : (dropExcess n l).filter (·.isHeld) = l.filter (·.isHeld) := by
  induction n generalizing l with
  | zero => rfl
  | succ n ih =>
    unfold dropExcess
    split
    · rw [ih, dropFarthest_held]
    · rfl

/-- Dropping as often as needed leaves four WANTED entries, and twelve entries where eight are HELD at most. -/
theorem dropExcess_limits (n : Nat) (l : List Claim) (hn : wantedCount l ≤ n) :
    wantedCount (dropExcess n l) ≤ Config.wantedCapacity ∧
    (heldCount l ≤ Config.heldCapacity → (dropExcess n l).length ≤ Config.claimCapacity) := by
  induction n generalizing l with
  | zero =>
    have h0 : wantedCount l = 0 := Nat.le_zero.mp hn
    have := heldCount_add_wantedCount l
    refine ⟨by simp [dropExcess, h0], fun hh => ?_⟩
    simp only [dropExcess, Config.claimCapacity, Config.heldCapacity] at *
    omega
  | succ n ih =>
    have hheld : heldCount (dropFarthest l) = heldCount l := by rw [heldCount, dropFarthest_held, heldCount]
    unfold dropExcess
    split
    · obtain ⟨h1, h2⟩ := ih (dropFarthest l) (by rw [dropFarthest_count]; omega)
      exact ⟨h1, fun hh => h2 (by omega)⟩
    · rename_i h
      exact ⟨by omega, fun _ => by omega⟩

theorem capWanted_sublist (l : List Claim) : (capWanted l).Sublist l := dropExcess_sublist _ l

theorem capWanted_held (l : List Claim) : (capWanted l).filter (·.isHeld) = l.filter (·.isHeld) := dropExcess_held _ l

theorem capWanted_wanted (l : List Claim) : wantedCount (capWanted l) ≤ Config.wantedCapacity :=
  (dropExcess_limits _ l (wantedCount_le_length l)).1

/-- A list within its limits loses nothing. -/
theorem capWanted_within (l : List Claim) (hw : wantedCount l ≤ Config.wantedCapacity) (hl : l.length ≤ Config.claimCapacity) :
    capWanted l = l := by
  unfold capWanted
  cases l.length with
  | zero => rfl
  | succ n => rw [dropExcess, if_neg (by omega)]

/-! ### Entering an entry (R96) -/

theorem insertClaim_perm (x : Claim) (l : List Claim) : (insertClaim x l).Perm (x :: l) := by
  induction l with
  | nil => exact .refl _
  | cons e rest ih =>
    unfold insertClaim
    split
    · exact .refl _
    · exact (ih.cons e).trans (.swap x e rest)

/-! ### Promotion (R102) -/

theorem mapFirst_some {p : Claim → Bool} {f : Claim → List Claim} {l r : List Claim} (h : mapFirst p f l = some r) :
    ∃ pre x post, l = pre ++ x :: post ∧ (∀ y ∈ pre, p y = false) ∧ p x = true ∧ r = pre ++ (f x ++ post) := by
  induction l generalizing r with
  | nil => exact nomatch h
  | cons e rest ih =>
    unfold mapFirst at h
    split at h
    · rename_i hp
      cases h
      exact ⟨[], e, rest, rfl, nofun, hp, rfl⟩
    · rename_i hp
      split at h
      · rename_i rest' hrest
        obtain ⟨pre, x, post, rfl, hpre, hx, rfl⟩ := ih hrest
        cases h
        exact ⟨e :: pre, x, post, rfl, List.forall_mem_cons.mpr ⟨by simpa using hp, hpre⟩, hx, rfl⟩
      · exact nomatch h

/-- The front WANTED entry stands after HELD entries alone. -/
theorem firstWanted_some {l : List Claim} {w : Claim} (h : firstWanted l = some w) :
    ∃ pre post, l = pre ++ w :: post ∧ (∀ y ∈ pre, y.isHeld = true) ∧ w.isHeld = false := by
  obtain ⟨hw, pre, post, rfl, hpre⟩ := List.find?_eq_some_iff_append.mp h
  exact ⟨pre, post, rfl, fun y hy => by simpa using hpre y hy, by simpa using hw⟩

/-- Promotion turns the front WANTED entry, and nothing else (R102). -/
theorem promoteFirst_of_first (pre post : List Claim) (w : Claim) (hpre : ∀ y ∈ pre, y.isHeld = true) (hw : w.isHeld = false) :
    promoteFirst (pre ++ w :: post) = pre ++ w.promoted :: post := by
  have hmap : mapFirst (fun e => !e.isHeld) (fun e => [e.promoted]) (pre ++ w :: post) = some (pre ++ w.promoted :: post) := by
    induction pre with
    | nil => simp [mapFirst, hw]
    | cons e pre ih =>
      obtain ⟨he, hpre⟩ := List.forall_mem_cons.mp hpre
      simp [mapFirst, he, ih hpre]
  rw [promoteFirst, hmap]

/-! ### Turning back from an entry (R107) -/

theorem turnBackFrom_segs (g : Nat) (l : List Claim) : (turnBackFrom g l).map (·.seg) = l.map (·.seg) := by
  induction l with
  | nil => rfl
  | cons e rest ih =>
    unfold turnBackFrom
    split
    · rw [List.map_map]
      refine List.map_congr_left fun x _ => ?_
      simp only [Function.comp_apply]
      split <;> rfl
    · rw [List.map_cons, ih, List.map_cons]

/-! ### Matching a route (R110) -/

/-- The entries of a list are those of its marked form. -/
theorem markUnmatched_fst (entries : List RouteEntry) (broken : Bool) (l : List Claim) :
    (markUnmatched entries broken l).map Prod.fst = l := by
  induction l generalizing broken with
  | nil => rfl
  | cons e rest ih =>
    unfold markUnmatched
    split <;> simp [ih]

/-- What a route change keeps of the list, detached or not, stands in the order of the list with its segments and states. -/
theorem routeChange_marks (s : State) (l : List (Claim × Bool)) :
    (claimMarks (l.filterMap (fun p => if !p.2 then some p.1
      else if p.1.isHeld && s.detaches p.1 then some { p.1 with tie := .detached } else none))).Sublist
      (claimMarks (l.map Prod.fst)) := by
  induction l with
  | nil => exact .slnil
  | cons p l ih =>
    simp only [List.filterMap_cons, List.map_cons, claimMarks_cons]
    split
    · exact ih.cons _
    · rename_i e he
      refine (?_ : claimMarks (e :: _) = _) ▸ ih.cons_cons _
      split at he
      · cases he; rfl
      · split at he
        · cases he; rfl
        · exact nomatch he

theorem wantedCount_of_marks_sublist {l r : List Claim} (h : (claimMarks l).Sublist (claimMarks r)) :
    wantedCount l ≤ wantedCount r := by
  rw [← wantedIds_length, ← wantedIds_length, wantedIds_marks, wantedIds_marks]
  exact ((h.filter _).map _).length_le

theorem segs_of_marks_sublist {l r : List Claim} (h : (claimMarks l).Sublist (claimMarks r)) :
    (l.map (·.seg)).Sublist (r.map (·.seg)) := by
  have := h.map Prod.fst
  simpa [claimMarks, Function.comp_def] using this

end Sys2Proof.Machine
end

section
/-! PROOFS. The moves an event of the Claim Unit is made of, and the laws of the own claim list and the double-hold record
that each of them keeps (06; O50, O55). -/

namespace Sys2Proof.Machine

/-! ### The moves of an event (R99) -/

/-- Claims are worked, and there is a position. -/
def State.claims (s : State) : Bool := s.working && s.placed

theorem State.claims_of_same {s t : State} (hc : t.ctl = s.ctl) (hq : t.pos.quality = s.pos.quality) : t.claims = s.claims := by
  simp only [State.claims, State.working, State.placed, hc, hq]

theorem ReportFrame.claims {s t : State} (h : ReportFrame s t) : t.claims = s.claims := State.claims_of_same h.ctl h.quality

/-- What an event of the Claim Unit does after its own effect and before its list change report, one operation at a time. -/
inductive ClaimMove : State → State → Prop
  | release (s : State) : ClaimMove s s.releaseBehind.1
  | occupy (b : Body) (acc : State × List Claim) (sp : Span) (h : acc.1.claims = true) :
      ClaimMove acc.1 (State.occupyEntry b acc sp).1
  | fill (s : State) (e : Claim) (he : s.fillNext = some e) (h : s.claims = true) :
      ClaimMove s (s.setClaims (s.claim.list ++ [e]))
  | promote (s : State) (w : Claim) (h : firstWanted s.claim.list = some w) :
      ClaimMove s (s.setClaims (promoteFirst s.claim.list))
  | faceOff (s : State) : ClaimMove s s.testFaceOff
  | wait (s : State) : ClaimMove s s.settleWait
  | removeFront (s : State) (h : s.indexPastFront = true) : ClaimMove s s.removeFront

/-- A chain of moves. -/
abbrev ClaimMoves : State → State → Prop := Relation.ReflTransGen ClaimMove

theorem ClaimMove.frame {s t : State} (h : ClaimMove s t) : ReportFrame s t := by
  cases h
  case release => exact s.releaseBehind_frame
  case occupy b acc sp h => exact State.occupyEntry_frame b acc sp
  case fill e he h => exact s.setClaims_frame _
  case promote w h => exact s.setClaims_frame _
  case faceOff => exact s.testFaceOff_frame
  case wait => exact s.settleWait_frame
  case removeFront h => exact s.removeFront_frame h

/-- A relation that every move has and that composes holds across a chain of them. -/
theorem ClaimMoves.rel {R : State → State → Prop} (hrefl : ∀ s, R s s) (htrans : ∀ {s t u}, R s t → R t u → R s u)
    (hmove : ∀ s t, ClaimMove s t → R s t) {s t : State} (h : ClaimMoves s t) : R s t := by
  induction h with
  | refl => exact hrefl s
  | tail _ hm ih => exact htrans ih (hmove _ _ hm)

theorem occupyFold_moves (b : Body) (l : List Span) (acc : State × List Claim) (h : acc.1.claims = true) :
    ClaimMoves acc.1 (l.foldl (State.occupyEntry b) acc).1 := by
  induction l generalizing acc with
  | nil => exact .refl
  | cons sp rest ih =>
    exact .head (.occupy b acc sp h) (ih _ ((State.occupyEntry_frame b acc sp).claims.trans h))

theorem State.occupy_moves (s : State) (h : s.claims = true) : ClaimMoves s s.occupy.1 := by
  unfold State.occupy
  split
  · exact .refl
  · exact occupyFold_moves _ _ (s, []) h

theorem fillRepeat_moves (n : Nat) (s : State) (h : s.claims = true) : ClaimMoves s (fillRepeat n s) := by
  induction n generalizing s with
  | zero => exact .refl
  | succ n ih =>
    unfold fillRepeat
    split
    · rename_i e he
      exact .head (.fill s e he h) (ih _ h)
    · exact .refl

theorem cascade_moves (n : Nat) (s : State) : ClaimMoves s (cascade n s).1 := by
  induction n generalizing s with
  | zero => exact .refl
  | succ n ih =>
    unfold cascade
    split
    · exact .refl
    · rename_i w hw
      split
      · exact .head (.promote s w hw) (ih _)
      · exact .refl

theorem State.routeRelease_moves (g : Nat) (s : State) : ClaimMoves s (s.routeRelease g) := by
  unfold State.routeRelease
  split
  · exact .refl
  · split
    · rename_i h
      exact .single (.removeFront s h.2)
    · exact .refl

theorem releases_moves (l : List Nat) (s : State) : ClaimMoves s (l.foldl State.routeRelease s) := by
  induction l generalizing s with
  | nil => exact .refl
  | cons g rest ih => exact (s.routeRelease_moves g).trans (ih _)

theorem trimRepeat_moves (n : Nat) (s : State) : ClaimMoves s (trimRepeat n s) := by
  induction n generalizing s with
  | zero => exact .refl
  | succ n ih =>
    unfold trimRepeat
    split
    · rename_i h
      exact .head (.removeFront s (s.trimsFront_past h)) (ih _)
    · exact .refl

theorem State.trim_moves (s : State) : ClaimMoves s s.trim := trimRepeat_moves _ s

theorem claimSteps_moves (r : State × List Claim) : ClaimMoves r.1 (claimSteps r).1 := by
  unfold claimSteps
  split
  · rename_i h
    have h2 : r.1.releaseBehind.1.claims = true := r.1.releaseBehind_frame.claims.trans h
    have h3 : r.1.releaseBehind.1.occupy.1.claims = true := (State.occupy_frame _).claims.trans h2
    exact .head (.release r.1) ((State.occupy_moves _ h2).trans (fillRepeat_moves _ _ h3))
  · exact .refl

theorem State.examine_moves (s : State) (h : s.working = true) : ClaimMoves s s.examine := by
  have hf : ReportFrame s (cascade Config.claimCapacity s).1.testFaceOff :=
    (cascade_frame _ s).trans (State.testFaceOff_frame _)
  have h1 : ClaimMoves s (cascade Config.claimCapacity s).1.testFaceOff := (cascade_moves _ s).tail (.faceOff _)
  unfold State.examine
  dsimp only
  split
  · rename_i hfill
    refine h1.trans (fillRepeat_moves _ _ ?_)
    rw [Bool.and_eq_true] at hfill
    have hw : (cascade Config.claimCapacity s).1.testFaceOff.working = s.working := by rw [State.working, State.working, hf.ctl]
    simp [State.claims, hw, h, hfill.2]
  · exact h1

/-- An event of the Claim Unit is its own effect, a chain of moves and the list change report (R99). -/
theorem claimEvent_work (own : State → State × List Claim) (exam : Bool) (s : State) :
    ∃ u, ClaimMoves (own s).1 u ∧ (claimEvent own exam s).1 = u.reportLists := by
  refine ⟨_, ?_, rfl⟩
  refine (claimSteps_moves (own s)).trans ?_
  generalize claimSteps (own s) = r
  generalize decide (r.1.claim.list.map Claim.shape ≠ s.claim.list.map Claim.shape) = ch
  have h2 : ClaimMoves r.1 (if ((exam || ch) && r.1.working) = true then r.1.examine else r.1) := by
    split
    · rename_i h
      exact r.1.examine_moves (Bool.and_eq_true _ _ ▸ h).2
    · exact .refl
  refine h2.trans ?_
  generalize (if ((exam || ch) && r.1.working) = true then r.1.examine else r.1) = u
  refine Relation.ReflTransGen.head (.wait u) ((releases_moves (releaseOrder r.2) _).trans ?_)
  split
  · exact State.trim_moves _
  · exact .refl

/-- A relation that composes and that the moves and the list change report have holds across what follows an event's own
effect. -/
theorem claimEvent_rel {R : State → State → Prop} (hrefl : ∀ s, R s s) (htrans : ∀ {s t u}, R s t → R t u → R s u)
    (hmove : ∀ s t, ClaimMove s t → R s t) (hlists : ∀ s : State, R s s.reportLists) (own : State → State × List Claim)
    (exam : Bool) (s : State) : R (own s).1 (claimEvent own exam s).1 := by
  obtain ⟨u, hmoves, hu⟩ := claimEvent_work own exam s
  exact hu ▸ htrans (hmoves.rel hrefl htrans hmove) (hlists u)

/-! ### What keeps the laws of the list -/

/-- What an operation of the Claim Unit keeps of the laws on its list and its double-hold record. -/
structure ClaimsKeep (s t : State) : Prop where
  claims : t.claims = s.claims
  distinct : (s.claim.list.map (·.seg)).Nodup → (t.claim.list.map (·.seg)).Nodup
  wanted : wantedCount s.claim.list ≤ Config.wantedCapacity → (s.claim.list.map (·.seg)).Nodup →
    wantedCount t.claim.list ≤ Config.wantedCapacity
  empty : s.claim.list = [] → s.claims = false → t.claim.list = []
  pairHeld : (∀ p ∈ s.claim.doubles, p.2 ∈ heldIds s.claim.list) → ∀ p ∈ t.claim.doubles, p.2 ∈ heldIds t.claim.list
  pairs : s.claim.doubles.Nodup → t.claim.doubles.Nodup
  capacity : s.claim.doubles.length ≤ Config.doubleHoldCapacity → t.claim.doubles.length ≤ Config.doubleHoldCapacity

theorem ClaimsKeep.trans {s t u : State} (h : ClaimsKeep s t) (k : ClaimsKeep t u) : ClaimsKeep s u where
  claims := k.claims.trans h.claims
  distinct := k.distinct ∘ h.distinct
  wanted := fun hw hd => k.wanted (h.wanted hw hd) (h.distinct hd)
  empty := fun he hc => k.empty (h.empty he hc) (h.claims.trans hc)
  pairHeld := k.pairHeld ∘ h.pairHeld
  pairs := k.pairs ∘ h.pairs
  capacity := k.capacity ∘ h.capacity

/-- An operation that leaves segments, states and pairs. -/
theorem ClaimsKeep.of_marks {s t : State} (hc : t.claims = s.claims)
    (hl : claimMarks t.claim.list = claimMarks s.claim.list) (hd : t.claim.doubles = s.claim.doubles) : ClaimsKeep s t where
  claims := hc
  distinct := fun h => by rwa [segs_of_marks hl]
  wanted := fun h _ => by rwa [wantedCount_of_marks hl]
  empty := fun h _ => by
    rw [h] at hl
    exact List.map_eq_nil_iff.mp hl
  pairHeld := fun h => by rwa [heldIds_of_marks hl, hd]
  pairs := fun h => by rwa [hd]
  capacity := fun h => by rwa [hd]

theorem ClaimsKeep.refl (s : State) : ClaimsKeep s s := .of_marks rfl rfl rfl

/-- A list put in place takes the pairs of entries no longer HELD out of the record (R108). -/
theorem ClaimsKeep.setClaims (s : State) (l : List Claim)
    (hd : (s.claim.list.map (·.seg)).Nodup → (l.map (·.seg)).Nodup)
    (hw : wantedCount s.claim.list ≤ Config.wantedCapacity → (s.claim.list.map (·.seg)).Nodup →
      wantedCount l ≤ Config.wantedCapacity)
    (he : s.claim.list = [] → s.claims = false → l = []) : ClaimsKeep s (s.setClaims l) where
  claims := rfl
  distinct := hd
  wanted := hw
  empty := he
  pairHeld := fun _ p hp => by simpa using (List.mem_filter.mp hp).2
  pairs := List.Nodup.filter _
  capacity := (List.length_filter_le _ _).trans

/-- A list of entries that stood, with their segments and states. -/
theorem ClaimsKeep.setClaims_marks (s : State) (l : List Claim) (h : (claimMarks l).Sublist (claimMarks s.claim.list)) :
    ClaimsKeep s (s.setClaims l) :=
  .setClaims s l (fun hd => hd.sublist (segs_of_marks_sublist h)) (fun hw _ => (wantedCount_of_marks_sublist h).trans hw)
    fun he _ => by
      rw [he] at h
      exact List.map_eq_nil_iff.mp (List.sublist_nil.mp h)

theorem claimMarks_sublist {l r : List Claim} (h : l.Sublist r) : (claimMarks l).Sublist (claimMarks r) := h.map _

theorem ClaimsKeep.raise (e : Event) (s : State) : ClaimsKeep s (s.raise e) := .of_marks rfl rfl rfl

theorem ClaimsKeep.raiseIf (c : Bool) (e : Event) (s : State) : ClaimsKeep s (s.raiseIf c e) := by
  cases c
  · exact .refl s
  · exact .raise e s

/-! ### The moves keep the laws -/

theorem State.releaseBehind_keeps (s : State) : ClaimsKeep s s.releaseBehind.1 := by
  unfold State.releaseBehind
  split
  · exact .refl s
  · exact .setClaims_marks s _ (claimMarks_sublist List.filter_sublist)

/-- Making room names no new segment. -/
theorem State.makeRoom_segs (s : State) (b : Body) :
    ((s.makeRoom b).1.claim.list.map (·.seg)).Sublist (s.claim.list.map (·.seg)) := by
  unfold State.makeRoom
  split
  · exact .refl _
  · split
    · rename_i l hl
      obtain ⟨pre, x, post, hlist, -, -, rfl⟩ := mapLast_some hl
      rw [hlist]
      simp [Claim.turnedBack]
    · split
      · exact (List.erase_sublist).map _
      · split
        · exact (List.erase_sublist).map _
        · exact .refl _

/-- Making room adds no pair. -/
theorem State.makeRoom_doubles (s : State) (b : Body) : (s.makeRoom b).1.claim.doubles.Sublist s.claim.doubles := by
  unfold State.makeRoom
  split
  · exact .refl _
  · split
    · exact List.filter_sublist
    · split
      · exact List.filter_sublist
      · split
        · exact List.filter_sublist
        · exact .refl _

/-- A HELD entry entered for a route entry, the entry of its segment taken out before, within the limits (R105, R106). -/
theorem occupied_distinct (e : Claim) (sp : Span) (l : List Claim) (hseg : e.seg = sp.seg) (h : (l.map (·.seg)).Nodup) :
    ((capWanted (insertClaim e (takeListed sp l))).map (·.seg)).Nodup := by
  refine List.Nodup.sublist ((capWanted_sublist _).map _) ?_
  rw [((insertClaim_perm e (takeListed sp l)).map _).nodup_iff, List.map_cons, List.nodup_cons]
  refine ⟨fun hmem => ?_, h.sublist ((takeListed_sublist sp l).map _)⟩
  obtain ⟨x, hx, hxe⟩ := List.mem_map.mp hmem
  exact takeListed_free sp l h x hx (hxe.trans hseg)

theorem State.occupyEntry_keeps (b : Body) (acc : State × List Claim) (sp : Span) (h : acc.1.claims = true) :
    ClaimsKeep acc.1 (State.occupyEntry b acc sp).1 := by
  unfold State.occupyEntry
  dsimp only
  split
  · exact .refl _
  · refine ClaimsKeep.trans ?_ (ClaimsKeep.raiseIf _ _ _)
    exact
      { claims := (((acc.1.makeRoom_frame b).trans (State.setClaims_frame _ _)).claims :)
        distinct := fun hd => occupied_distinct _ sp _ rfl (hd.sublist (acc.1.makeRoom_segs b))
        wanted := fun _ _ => capWanted_wanted _
        empty := fun _ hf => absurd (h.symm.trans hf) (by decide)
        pairHeld := fun _ p hp => by simpa using (List.mem_filter.mp hp).2
        pairs := fun hn => (hn.sublist (acc.1.makeRoom_doubles b)).filter _
        capacity := fun hl => (List.length_filter_le _ _).trans ((acc.1.makeRoom_doubles b).length_le.trans hl) }

/-- The entry filling adds is WANTED, of a segment not listed, and the limits leave room for it (R100). -/
theorem State.fillNext_some {s : State} {e : Claim} (h : s.fillNext = some e) :
    e.isHeld = false ∧ (∀ x ∈ s.claim.list, x.seg ≠ e.seg) ∧ wantedCount s.claim.list < Config.wantedCapacity ∧
      s.claim.list.length < Config.claimCapacity := by
  unfold State.fillNext at h
  split at h
  · split at h
    · split at h
      · rename_i hcond
        cases h
        simp only [Bool.and_eq_true, Bool.not_eq_true', decide_eq_true_eq, List.any_eq_false, beq_iff_eq] at hcond
        obtain ⟨⟨⟨hfree, hw⟩, hl⟩, -⟩ := hcond
        exact ⟨rfl, fun x hx => hfree x hx, hw, hl⟩
      · exact nomatch h
    · exact nomatch h
  · exact nomatch h

theorem promoteFirst_segs (l : List Claim) : (promoteFirst l).map (·.seg) = l.map (·.seg) := by
  unfold promoteFirst
  split
  · rename_i r hr
    obtain ⟨pre, x, post, rfl, -, -, rfl⟩ := mapFirst_some hr
    simp [Claim.promoted]
  · rfl

theorem promoteFirst_wanted (l : List Claim) : wantedCount (promoteFirst l) ≤ wantedCount l := by
  unfold promoteFirst
  split
  · rename_i r hr
    obtain ⟨pre, x, post, rfl, -, -, rfl⟩ := mapFirst_some hr
    simp only [wantedCount_append, wantedCount_cons, List.cons_append, List.nil_append]
    simp [Claim.promoted, Claim.isHeld]
  · exact le_rfl

theorem State.testFaceOff_claim (s : State) :
    s.testFaceOff.claim.list = s.claim.list ∧ s.testFaceOff.claim.doubles = s.claim.doubles := by
  unfold State.testFaceOff
  split
  · exact ⟨rfl, rfl⟩
  · dsimp only
    split
    · split <;> exact ⟨rfl, rfl⟩
    · exact ⟨rfl, rfl⟩

theorem State.listChange_claim (s : State) : s.listChange.claim = s.claim := by
  unfold State.listChange
  split
  · split <;> rfl
  · rfl

theorem State.reportLists_claim (s : State) :
    s.reportLists.claim.list = s.claim.list ∧ s.reportLists.claim.doubles = s.claim.doubles := by
  unfold State.reportLists
  split
  · exact ⟨rfl, rfl⟩
  · rw [State.listChange_claim]
    exact ⟨rfl, rfl⟩

theorem State.removeFront_claim (s : State) :
    claimMarks s.removeFront.claim.list = claimMarks s.claim.list ∧ s.removeFront.claim.doubles = s.claim.doubles := by
  unfold State.removeFront
  split
  · exact ⟨rfl, rfl⟩
  · exact ⟨claimMarks_shift _ _, rfl⟩

theorem ClaimMove.keeps {s t : State} (h : ClaimMove s t) : ClaimsKeep s t := by
  have hc := h.frame.claims
  cases h
  case release => exact s.releaseBehind_keeps
  case occupy b acc sp h => exact State.occupyEntry_keeps b acc sp h
  case fill e he h =>
    obtain ⟨hw, hfree, hroom, -⟩ := State.fillNext_some he
    refine .setClaims s _ (fun hd => ?_) (fun _ _ => ?_) (fun _ hf => absurd (h.symm.trans hf) (by decide))
    · rw [List.map_append, List.nodup_append]
      refine ⟨hd, List.nodup_singleton _, fun a ha b hb => ?_⟩
      obtain ⟨x, hx, rfl⟩ := List.mem_map.mp ha
      obtain rfl := List.mem_singleton.mp hb
      exact hfree x hx
    · rw [wantedCount_append, wantedCount_cons, hw]
      exact hroom
  case promote w hw =>
    refine .setClaims s _ (fun hd => by rwa [promoteFirst_segs]) (fun hc _ => (promoteFirst_wanted _).trans hc) fun he _ => ?_
    rw [he]
    rfl
  case faceOff => exact .of_marks hc (congrArg claimMarks s.testFaceOff_claim.1) s.testFaceOff_claim.2
  case wait => exact .of_marks hc (claimMarks_settleWaits _ _) rfl
  case removeFront h => exact .of_marks hc s.removeFront_claim.1 s.removeFront_claim.2

theorem ClaimMoves.keeps {s t : State} (h : ClaimMoves s t) : ClaimsKeep s t :=
  h.rel ClaimsKeep.refl ClaimsKeep.trans fun _ _ hm => hm.keeps

theorem State.reportLists_keeps (s : State) : ClaimsKeep s s.reportLists :=
  .of_marks s.reportLists_frame.claims (congrArg claimMarks s.reportLists_claim.1) s.reportLists_claim.2

/-- What follows an event's own effect keeps the laws. -/
theorem claimEvent_after_keeps (own : State → State × List Claim) (exam : Bool) (s : State) :
    ClaimsKeep (own s).1 (claimEvent own exam s).1 :=
  claimEvent_rel ClaimsKeep.refl ClaimsKeep.trans (fun _ _ hm => hm.keeps) State.reportLists_keeps own exam s

/-! ### The own effects keep the laws -/

theorem State.recordDouble_keeps (peer seg : Nat) (s : State) (hseg : seg ∈ heldIds s.claim.list) :
    ClaimsKeep s (s.recordDouble peer seg) := by
  unfold State.recordDouble
  split
  · exact .refl s
  · rename_i hnew
    dsimp only
    split
    · rename_i hroom
      exact
        { ClaimsKeep.refl s with
          pairHeld := fun h p hp => by
            obtain hp | hp := List.mem_append.mp hp
            · exact h p hp
            · rw [List.mem_singleton.mp hp]
              exact hseg
          pairs := fun hn => by
            refine List.nodup_append.mpr ⟨hn, List.nodup_singleton _, fun a ha b hb heq => hnew ?_⟩
            rw [List.mem_singleton.mp hb] at heq
            exact List.contains_iff_mem.mpr (heq ▸ ha)
          capacity := fun _ => by
            rw [List.length_append, List.length_singleton]
            exact hroom }
    · exact .raise _ s

/-- Turning back and dropping the excess (R107). -/
theorem turnBack_keeps (g : Nat) (s : State) : ClaimsKeep s (s.setClaims (capWanted (turnBackFrom g s.claim.list))) := by
  refine .setClaims s _ (fun hd => ?_) (fun _ _ => capWanted_wanted _) fun he _ => by rw [he]; rfl
  refine List.Nodup.sublist ((capWanted_sublist _).map _) ?_
  rwa [turnBackFrom_segs]

theorem State.recordDouble_list (peer seg : Nat) (s : State) : (s.recordDouble peer seg).claim.list = s.claim.list := by
  unfold State.recordDouble
  split
  · rfl
  · dsimp only
    split <;> rfl

theorem doubleHoldWalk_keeps (b : Body) (p : Peer) (l : List Claim) (s : State) (hsub : ∀ e ∈ l, e ∈ s.claim.list) :
    ClaimsKeep s (doubleHoldWalk b p l s) := by
  induction l generalizing s with
  | nil => exact .refl s
  | cons e rest ih =>
    obtain ⟨hmem, hrest⟩ := List.forall_mem_cons.mp hsub
    unfold doubleHoldWalk
    split
    · rename_i hcond
      split
      · exact turnBack_keeps e.seg s
      · have hheld : e.seg ∈ heldIds s.claim.list :=
          mem_heldIds.mpr ⟨e, hmem, (Bool.and_eq_true _ _ ▸ hcond).1, rfl⟩
        exact (s.recordDouble_keeps p.id e.seg hheld).trans (ih _ (by rwa [State.recordDouble_list]))
    · exact ih s hrest

/-- Pairs taken out of the record. -/
theorem ClaimsKeep.filterDoubles (f : Nat × Nat → Bool) (s : State) :
    ClaimsKeep s { s with claim := { s.claim with doubles := s.claim.doubles.filter f } } :=
  { ClaimsKeep.refl s with
    pairHeld := fun h p hp => h p (List.mem_of_mem_filter hp)
    pairs := List.Nodup.filter _
    capacity := (List.length_filter_le _ _).trans }

theorem State.clearClaims_keeps (s : State) : ClaimsKeep s s.clearClaims where
  claims := rfl
  distinct := fun _ => List.nodup_nil
  wanted := fun _ _ => Nat.zero_le _
  empty := fun _ _ => rfl
  pairHeld := fun _ => nofun
  pairs := fun _ => List.nodup_nil
  capacity := fun _ => Nat.zero_le _

theorem OwnEffect.keeps {own : State → State × List Claim} (h : OwnEffect own) (s : State) : ClaimsKeep s (own s).1 := by
  cases h
  case nothing => exact .refl s
  case advertise w =>
    refine .setClaims_marks s _ ?_
    rw [claimMarks_map]
    intro e
    split <;> exact ⟨rfl, rfl⟩
  case accepted p =>
    refine ClaimsKeep.trans (.filterDoubles (fun d => d.1 != p.id || s.map.conflictHit p.held d.2) s) ?_
    unfold ownAccepted
    dsimp only
    split
    · split
      · exact doubleHoldWalk_keeps _ p _ _ fun e he => he
      · exact .refl _
    · exact .refl _
  case removal id => exact .filterDoubles _ s
  case saturation on => exact .of_marks rfl rfl rfl
  case clash => exact .of_marks rfl rfl rfl
  case seed => exact s.clearClaims_keeps.trans (.of_marks rfl rfl rfl)
  case start => exact .of_marks rfl rfl rfl
  case routeChange =>
    refine .setClaims_marks s _ ?_
    have := routeChange_marks s (markUnmatched s.route.entries false s.claim.list)
    rwa [markUnmatched_fst] at this
  case leaving => exact s.clearClaims_keeps

/-! ### The Guidance Unit leaves the Claim Unit -/

theorem State.setGuide_claim (g : Guidance) (d : Drive) (s : State) : (s.setGuide g d).claim = s.claim := by
  unfold State.setGuide State.raiseIf
  split <;> rfl

theorem State.recompute_claim (s : State) : s.recompute.claim = s.claim := s.setGuide_claim _ _

theorem State.guided_claim (k : State → State) (s : State) : (s.guided k).claim = (k s).claim := by
  unfold State.guided
  dsimp only
  split
  · exact State.setGuide_claim _ _ _
  · split <;> exact State.setGuide_claim _ _ _

theorem State.guided_keeps {k : State → State} {s : State} (h : ClaimsKeep s (k s)) : ClaimsKeep s (s.guided k) :=
  h.trans (.of_marks (s.guided_frame k).claims (by rw [State.guided_claim]) (by rw [State.guided_claim]))

theorem claimEvent_keeps {own : State → State × List Claim} (h : OwnEffect own) (exam : Bool) (s : State) :
    ClaimsKeep s (claimEvent own exam s).1 := (h.keeps s).trans (claimEvent_after_keeps own exam s)

theorem State.claimOnly_keeps {own : State → State × List Claim} (h : OwnEffect own) (exam : Bool) (s : State) :
    ClaimsKeep s (s.claimOnly own exam) := by
  unfold State.claimOnly
  dsimp only
  split
  · exact (claimEvent_keeps h exam s).trans
      (.of_marks (State.recompute_frame _).claims (by rw [State.recompute_claim]) (by rw [State.recompute_claim]))
  · exact claimEvent_keeps h exam s

theorem State.testArrival_claim (s : State) : s.testArrival.claim = s.claim := by
  unfold State.testArrival
  split <;> rfl

theorem State.testArrival_keeps (s : State) : ClaimsKeep s s.testArrival :=
  .of_marks s.testArrival_frame.claims (by rw [State.testArrival_claim]) (by rw [State.testArrival_claim])

theorem State.reportPosition_keeps (s : State) : ClaimsKeep s s.reportPosition :=
  State.guided_keeps ((s.testArrival_keeps.trans (claimEvent_keeps .nothing true _)).trans (State.trim_moves _).keeps)

theorem State.reportRoute_keeps (s : State) : ClaimsKeep s s.reportRoute :=
  State.guided_keeps (s.testArrival_keeps.trans (claimEvent_keeps .routeChange true _))

/-! ### The own claim list (O50) -/

theorem ClaimsKeep.claimListLaw {s t : State} (h : ClaimsKeep s t) (hs : ClaimListLaw s) : ClaimListLaw t where
  distinct := h.distinct hs.distinct
  wanted := h.wanted hs.wanted hs.distinct
  idle := fun hi => by
    have hf : s.claims = false := h.claims ▸ (Bool.and_eq_false_iff.mpr hi : t.claims = false)
    exact h.empty (hs.idle (Bool.and_eq_false_iff.mp hf)) hf
  pairHeld := h.pairHeld hs.pairHeld
  pairs := h.pairs hs.pairs

/-- A list without an entry and an empty record meet the laws. -/
theorem claimListLaw_empty (s : State) (hl : s.claim.list = []) (hd : s.claim.doubles = []) : ClaimListLaw s where
  distinct := by simp [hl]
  wanted := by simp [hl]
  idle := fun _ => hl
  pairHeld := by simp [hd]
  pairs := by simp [hd]

/-- The laws of the list read the list, the record, and whether claims are worked with a position. -/
theorem ClaimListLaw.of_same {s t : State} (h : ClaimListLaw s) (hl : t.claim.list = s.claim.list)
    (hd : t.claim.doubles = s.claim.doubles) (hc : s.claims = true → t.claims = true) : ClaimListLaw t where
  distinct := by rw [hl]; exact h.distinct
  wanted := by rw [hl]; exact h.wanted
  idle := fun hi => by
    rw [hl]
    refine h.idle (Bool.and_eq_false_iff.mp (Bool.eq_false_iff.mpr fun ht => ?_))
    exact absurd (hc ht) (Bool.eq_false_iff.mp (Bool.and_eq_false_iff.mpr hi))
  pairHeld := by rw [hl, hd]; exact h.pairHeld
  pairs := by rw [hd]; exact h.pairs

/-- In LEAVING the list and the record stay empty. -/
theorem State.depart_claimListLaw (s : State) : ClaimListLaw
    ((s.setCtl { s.ctl with state := .leaving, joinTimer := none }).guided (fun t => (claimEvent ownLeaving true t).1)) := by
  set u := s.setCtl { s.ctl with state := .leaving, joinTimer := none }
  have hu : ClaimListLaw (ownLeaving u).1 := claimListLaw_empty _ rfl rfl
  have hev : ClaimListLaw (claimEvent ownLeaving true u).1 := (claimEvent_after_keeps ownLeaving true u).claimListLaw hu
  exact hev.of_same (by rw [State.guided_claim]) (by rw [State.guided_claim])
    fun hc => (u.guided_frame fun t => (claimEvent ownLeaving true t).1).claims.trans hc

theorem State.dropQuality_isPlaced (c : Bool) (s : State) : (s.dropQuality c).placed = s.placed := by
  unfold State.dropQuality
  split
  · rename_i h
    rw [Bool.and_eq_true, beq_iff_eq] at h
    change (Quality.doubtful != .none) = (s.pos.quality != .none)
    rw [h.2]
    rfl
  · rfl

theorem State.raiseIf_isPlaced (c : Bool) (e : Event) (s : State) : (s.raiseIf c e).placed = s.placed := by
  cases c <;> rfl

/-- A fall of the quality raises a flag at most. -/
theorem State.dropQuality_port_flags (c : Bool) (s : State) : { (s.dropQuality c).port with flags := s.port.flags } = s.port := by
  unfold State.dropQuality
  split <;> rfl

theorem State.moveCentre_port_flags (cm : Nat) (s : State) :
    { (s.moveCentre cm).port with flags := s.port.flags } = s.port := by
  unfold State.moveCentre
  split
  · rfl
  · dsimp only
    generalize hu : State.raiseIf _ _ _ = u
    have h1 : { u.port with flags := s.port.flags } = s.port := by
      rw [← hu]
      exact State.raiseIf_port_flags _ _ _
    generalize hd : u.dropQuality _ = v
    have h2 : { v.port with flags := u.port.flags } = u.port := by
      rw [← hd]
      exact State.dropQuality_port_flags _ _
    rw [← h2] at h1
    exact h1

/-- A credit raises flags at most, in the port. -/
theorem State.credit_port_flags (s : State) : { s.credit.port with flags := s.port.flags } = s.port := by
  unfold State.credit
  split
  · rfl
  · dsimp only
    split
    · rfl
    · exact State.moveCentre_port_flags _ _

theorem State.moveCentre_isPlaced (cm : Nat) (s : State) : (s.moveCentre cm).placed = s.placed := by
  unfold State.moveCentre
  split
  · rfl
  · dsimp only
    rw [State.dropQuality_isPlaced, State.raiseIf_isPlaced]
    rfl

theorem State.credit_isPlaced (s : State) : s.credit.placed = s.placed := by
  unfold State.credit
  split
  · rfl
  · dsimp only
    split
    · rfl
    · rw [State.moveCentre_isPlaced]
      rfl

theorem State.claims_iff (s : State) : s.claims = true ↔ s.working = true ∧ s.placed = true := by
  simp [State.claims]

/-- Beside the acts that end in a report, the laws of the list need that a place is not lost and JOINING and RUN not left. -/
theorem ClaimListLaw.of_stays {s t : State} (h : ClaimListLaw s) (hl : t.claim = s.claim) (hc : t.ctl = s.ctl)
    (hp : s.placed = true → t.placed = true) : ClaimListLaw t :=
  h.of_same (by rw [hl]) (by rw [hl]) fun hcl => by
    rw [State.claims_iff] at hcl ⊢
    exact ⟨by rw [State.working, hc]; exact hcl.1, hp hcl.2⟩

theorem Act.claimListLaw {s t : State} (hact : Act s t) (hs : ClaimListLaw s) : ClaimListLaw t := by
  cases hact
  case aside h => exact hs.of_same h.list h.doubles fun hc => (State.claims_of_same h.ctl h.quality).trans hc
  case widthEnd => rw [s.widthEnd_eq]; exact hs.of_stays rfl rfl id
  case walkEnd => rw [s.sealWalkEnd_eq]; exact hs.of_stays rfl rfl id
  case credit =>
    have hclaim : s.credit.claim = s.claim := by rw [s.credit_eq]
    exact hs.of_stays hclaim s.credit_ctl fun hp => s.credit_isPlaced.trans hp
  case coreFix h => exact hs.of_stays rfl rfl fun _ => rfl
  case acceptFix fix hc =>
    unfold State.acceptFix
    split
    · exact hs
    · exact hs.of_stays rfl rfl fun _ => rfl
  case rejectFix err =>
    have heq := s.rejectFix_eq err
    have hclaim : (s.rejectFix err).claim = s.claim := by rw [heq]
    have hctl : (s.rejectFix err).ctl = s.ctl := by rw [heq]
    refine hs.of_stays hclaim hctl fun hp => ?_
    unfold State.rejectFix
    exact (State.dropQuality_isPlaced _ _).trans hp
  case seed seg off sign hc => exact hs.of_stays rfl rfl fun _ => rfl
  case enter st timer hr hst hm =>
    refine hs.of_same rfl rfl fun hcl => ?_
    rw [State.claims_iff] at hcl ⊢
    exact ⟨by rcases hst with rfl | rfl <;> rfl, hcl.2⟩
  case report own exam h => exact (s.claimOnly_keeps h exam).claimListLaw hs
  case guided own h => exact (State.guided_keeps (claimEvent_keeps h true s)).claimListLaw hs
  case reportPosition => exact s.reportPosition_keeps.claimListLaw hs
  case reportRoute => exact s.reportRoute_keeps.claimListLaw hs
  case recompute =>
    exact hs.of_same (by rw [State.recompute_claim]) (by rw [State.recompute_claim]) fun hc => s.recompute_frame.claims.trans hc
  case depart hc => exact s.depart_claimListLaw
  case offLine h =>
    have hidle : s.claims = false := by simp [State.claims, State.working, h]
    exact hs.of_same (by rw [State.recompute_claim]; rfl) (by rw [State.recompute_claim]; rfl)
      fun hc => absurd (hidle.symm.trans hc) (by decide)
  case station | tuning => exact hs.of_same rfl rfl id
  case periodBegin | resetAssert | mapWrite | route | peers => exact hs.of_stays rfl rfl id

/-- Settles O50: every move of an event keeps the laws of the list, and out of work or without a position the list is
empty from the change on. -/
theorem claimListInvariant : Obligations.ClaimListInvariant := fun _ _ hs h =>
  step_keeps (P := ClaimListLaw) (fun _ _ hact hu => hact.claimListLaw hu) (fun _ _ _ _ => claimListLaw_empty _ rfl rfl)
    (fun _ _ _ _ _ => claimListLaw_empty _ rfl rfl) (fun _ _ hu => hu.of_stays rfl rfl id) hs h

/-! ### The capacities (O55) -/

/-- The laws of the capacities read five lists and the two buffers. -/
theorem WithinCapacity.of_same {s t : State} (h : WithinCapacity s) (hq : t.link.queue = s.link.queue)
    (hx : t.port.rx = s.port.rx) (hp : t.port.placed = s.port.placed)
    (hr : s.route.entries.length ≤ Config.routeCapacity → t.route.entries.length ≤ Config.routeCapacity)
    (hv : s.peers.entries.length ≤ Config.peerCapacity → t.peers.entries.length ≤ Config.peerCapacity)
    (hd : s.claim.doubles.length ≤ Config.doubleHoldCapacity → t.claim.doubles.length ≤ Config.doubleHoldCapacity) :
    WithinCapacity t where
  queue := by rw [hq]; exact h.queue
  rx := by rw [hx]; exact h.rx
  replies := by rw [CommandPort.held, hp]; exact h.replies
  route := hr h.route
  peers := hv h.peers
  doubles := hd h.doubles

theorem Act.Reported.withinCapacity {s t : State} (h : Act.Reported s t) (hs : WithinCapacity s)
    (hd : t.claim.doubles.length ≤ Config.doubleHoldCapacity) : WithinCapacity t := by
  cases h with
  | same c hf =>
    obtain ⟨k, hent, -, -⟩ := hf.consumed
    refine hs.of_same hf.queue hf.rx hf.placed (fun hr => ?_) (fun hv => ?_) fun _ => hd
    · rw [hent, List.length_drop]
      exact (Nat.sub_le _ _).trans hr
    · rwa [hf.peers]
  | turned c st timer _ _ hf =>
    obtain ⟨k, hent, -, -⟩ := hf.consumed
    refine hs.of_same hf.queue hf.rx hf.placed (fun hr => ?_) (fun hv => ?_) fun _ => hd
    · rw [hent, List.length_drop]
      exact (Nat.sub_le _ _).trans hr
    · rwa [hf.peers]

theorem Act.withinCapacity {s t : State} (hact : Act s t) (hs : WithinCapacity s) : WithinCapacity t := by
  cases hact
  case aside h =>
    exact ⟨h.queue hs.queue, h.rx hs.rx, h.replies hs.replies, by rw [h.entries]; exact hs.route,
      by rw [h.peers]; exact hs.peers, by rw [h.doubles]; exact hs.doubles⟩
  case widthEnd => rw [s.widthEnd_eq]; exact hs.of_same rfl rfl rfl id id id
  case walkEnd => rw [s.sealWalkEnd_eq]; exact hs.of_same rfl rfl rfl id id id
  case credit =>
    have hport := s.credit_port_flags
    have hclaim : s.credit.claim = s.claim := by rw [s.credit_eq]
    have hroute : s.credit.route = s.route := by rw [s.credit_eq]
    have hpeers : s.credit.peers = s.peers := by rw [s.credit_eq]
    have hlink : s.credit.link = s.link := by rw [s.credit_eq]
    exact hs.of_same (by rw [hlink]) (congrArg CommandPort.rx hport :) (congrArg CommandPort.placed hport :) (by rw [hroute]; exact id)
      (by rw [hpeers]; exact id) (by rw [hclaim]; exact id)
  case acceptFix fix hc => rw [s.acceptFix_eq]; exact hs.of_same rfl rfl rfl id id id
  case rejectFix err =>
    have hport : { (s.rejectFix err).port with flags := s.port.flags } = s.port := State.dropQuality_port_flags _ _
    rw [s.rejectFix_eq err]
    exact hs.of_same rfl (congrArg CommandPort.rx hport :) (congrArg CommandPort.placed hport :) id id id
  case seed seg off sign hc => exact hs.of_same rfl rfl rfl (fun _ => (by decide : 1 ≤ Config.routeCapacity)) id id
  case route r hl hk => exact hs.of_same rfl rfl rfl hl id id
  case peers v he hd ho hl => exact hs.of_same rfl rfl rfl id hl id
  case report own exam h => exact (Act.report_reported h exam).withinCapacity hs ((s.claimOnly_keeps h exam).capacity hs.doubles)
  case guided own h =>
    exact (Act.guided_reported h).withinCapacity hs ((State.guided_keeps (claimEvent_keeps h true s)).capacity hs.doubles)
  case reportPosition => exact (Act.reportPosition_reported s).withinCapacity hs (s.reportPosition_keeps.capacity hs.doubles)
  case reportRoute => exact (Act.reportRoute_reported s).withinCapacity hs (s.reportRoute_keeps.capacity hs.doubles)
  case recompute =>
    exact (Act.recompute_reported s).withinCapacity hs (by rw [State.recompute_claim]; exact hs.doubles)
  case depart hc =>
    refine (Act.depart_reported s hc).withinCapacity hs ?_
    exact (State.guided_keeps (claimEvent_keeps .leaving true (s.setCtl { s.ctl with state := .leaving, joinTimer := none }))).capacity
      hs.doubles
  case offLine h => exact (Act.offLine_reported s h).withinCapacity hs (by rw [State.recompute_claim]; exact hs.doubles)
  case periodBegin | resetAssert | mapWrite | station | tuning | coreFix | enter => exact hs.of_same rfl rfl rfl id id id

theorem withinCapacity_reset (s : State) (m : MapStore) (c : StationControl) : WithinCapacity (s.resetWith m c) :=
  ⟨Nat.zero_le _, Nat.zero_le _, Nat.zero_le _, Nat.zero_le _, Nat.zero_le _, Nat.zero_le _⟩

/-- Settles O55: each act that lengthens a list or a buffer checks its room before. -/
theorem capacityInvariant : Obligations.CapacityInvariant := fun _ _ hs h =>
  step_keeps (P := WithinCapacity) (fun _ _ hact hu => hact.withinCapacity hu) (fun _ _ _ _ => withinCapacity_reset _ _ _)
    (fun _ _ _ _ _ => withinCapacity_reset _ _ _) (fun _ _ hu => hu.of_same rfl rfl rfl id id id) hs h

end Sys2Proof.Machine
end

section
/-! PROOFS. The guidance record, the hand-over to the Line Driver, and the laws of the permit and of the ceiling (08, 09; O57,
O60, O54). -/

namespace Sys2Proof.Machine

/-! ### The least of the terms (R145) -/

/-- The first of the smallest terms: smaller than those before it, and none after it is smaller. -/
theorem leastTerm_eq_some {l : List (Cause × Int)} {t : Cause × Int} (h : leastTerm l = some t) :
    ∃ pre post, l = pre ++ t :: post ∧ (∀ u ∈ pre, t.2 < u.2) ∧ ∀ u ∈ post, t.2 ≤ u.2 := by
  induction l generalizing t with
  | nil => exact nomatch h
  | cons a rest ih =>
    unfold leastTerm at h
    split at h
    · rename_i hnone
      cases h
      refine ⟨[], rest, rfl, nofun, ?_⟩
      cases rest with
      | nil => exact nofun
      | cons b r =>
        unfold leastTerm at hnone
        split at hnone
        · exact nomatch hnone
        · split at hnone <;> exact nomatch hnone
    · rename_i u hu
      obtain ⟨pre, post, rfl, hpre, hpost⟩ := ih hu
      split at h
      · rename_i hlt
        cases h
        exact ⟨a :: pre, post, rfl, List.forall_mem_cons.mpr ⟨hlt, hpre⟩, hpost⟩
      · rename_i hge
        cases h
        refine ⟨[], pre ++ u :: post, rfl, nofun, fun x hx => ?_⟩
        have hau : a.2 ≤ u.2 := Int.not_lt.mp hge
        obtain hx | hx := List.mem_append.mp hx
        · exact hau.trans (hpre x hx).le
        · obtain rfl | hx := List.mem_cons.mp hx
          · exact hau
          · exact hau.trans (hpost x hx)

theorem leastTerm_none {l : List (Cause × Int)} (h : leastTerm l = none) : l = [] := by
  cases l with
  | nil => rfl
  | cons a rest =>
    unfold leastTerm at h
    split at h
    · exact nomatch h
    · split at h <;> exact nomatch h

theorem leastTerm_mem {l : List (Cause × Int)} {t : Cause × Int} (h : leastTerm l = some t) : t ∈ l := by
  obtain ⟨pre, post, rfl, -, -⟩ := leastTerm_eq_some h
  simp

theorem leastTerm_le {l : List (Cause × Int)} {t : Cause × Int} (h : leastTerm l = some t) {u : Cause × Int} (hu : u ∈ l) :
    t.2 ≤ u.2 := by
  obtain ⟨pre, post, rfl, hpre, hpost⟩ := leastTerm_eq_some h
  obtain hu | hu := List.mem_append.mp hu
  · exact (hpre u hu).le
  · obtain rfl | hu := List.mem_cons.mp hu
    · exact le_rfl
    · exact hpost u hu

/-! ### The record, by direction (R142 to R146) -/

/-- The record without a position. -/
theorem State.guidance_unplaced (s : State) (h : s.body = none) : s.guidance = heldRecord s.sense 0 0 := by
  simp only [State.guidance, h]

/-- The record AHEAD. -/
theorem State.guidance_ahead (s : State) (b : Body) (h : s.body = some b) (hs : s.sense = .ahead) :
    s.guidance = if s.ctl.state = .run ∧ 0 < (s.ptl b).2 then
      s.movingRecord .ahead (s.ptl b).2 (s.rearward b).2 (s.aheadCeiling b (s.ptl b)).1 (s.aheadCeiling b (s.ptl b)).2
      else heldRecord .ahead (s.ptl b).2 (s.rearward b).2 := by
  simp only [State.guidance, h, hs, Bool.and_eq_true, beq_iff_eq, decide_eq_true_eq]

/-- The record BACK. -/
theorem State.guidance_back (s : State) (b : Body) (h : s.body = some b) (hs : s.sense = .back) :
    s.guidance = if s.ctl.state = .run ∧ 0 < (s.rearward b).2 then
      s.movingRecord .back (s.ptl b).2 (s.rearward b).2 (s.backCeiling b (s.rearward b)).1 (s.backCeiling b (s.rearward b)).2
      else heldRecord .back (s.ptl b).2 (s.rearward b).2 := by
  simp only [State.guidance, h, hs, Bool.and_eq_true, beq_iff_eq, decide_eq_true_eq]

/-- A record is that of a station held in place, or one with its grounds, in the present direction. -/
theorem State.guidance_cases (s : State) : (∃ ptl rear, s.guidance = heldRecord s.sense ptl rear) ∨
    ∃ b ptl rear cause ceiling, s.body = some b ∧ s.ctl.state = .run ∧ s.guidance = s.movingRecord s.sense ptl rear cause ceiling ∧
      (s.sense = .ahead → 0 < ptl ∧ ceiling = (s.aheadCeiling b (s.ptl b)).2) ∧
      (s.sense = .back → 0 < rear ∧ ceiling = (s.backCeiling b (s.rearward b)).2) := by
  cases hb : s.body with
  | none => exact .inl ⟨0, 0, s.guidance_unplaced hb⟩
  | some b =>
    cases hs : s.sense with
    | ahead =>
      rw [s.guidance_ahead b hb hs]
      split
      · rename_i h
        exact .inr ⟨b, _, _, _, _, rfl, h.1, rfl, fun _ => ⟨h.2, rfl⟩, nofun⟩
      · exact .inl ⟨_, _, rfl⟩
    | back =>
      rw [s.guidance_back b hb hs]
      split
      · rename_i h
        exact .inr ⟨b, _, _, _, _, rfl, h.1, rfl, nofun, fun _ => ⟨h.2, rfl⟩⟩
      · exact .inl ⟨_, _, rfl⟩

theorem State.body_placed {s : State} {b : Body} (h : s.body = some b) : s.pos.quality ≠ .none := by
  intro hq
  simp [State.body, State.centre, State.currentSpan, hq] at h

/-- A true permit has its grounds (R142, R144). -/
theorem State.guidance_grounds {s : State} (h : s.guidance.permit = true) :
    s.ctl.state = .run ∧ s.pos.quality ≠ .none ∧
      (match s.guidance.direction with
       | .ahead => 0 < s.guidance.ptl
       | .back => 0 < s.guidance.rearward) := by
  obtain ⟨ptl, rear, hg⟩ | ⟨b, ptl, rear, cause, ceiling, hb, hrun, hg, hahead, hback⟩ := s.guidance_cases
  · rw [hg] at h
    exact nomatch h
  · refine ⟨hrun, State.body_placed hb, ?_⟩
    rw [hg]
    cases hs : s.sense with
    | ahead => exact (hahead hs).1
    | back => exact (hback hs).1

/-- Without a permit there is no ceiling and no code, and HOLD is the cause (R142, R144, R145). -/
theorem State.guidance_held {s : State} (h : s.guidance.permit = false) :
    s.guidance.ceiling = 0 ∧ s.guidance.code = 0 ∧ s.guidance.cause = .hold := by
  obtain ⟨ptl, rear, hg⟩ | ⟨b, ptl, rear, cause, ceiling, hb, hrun, hg, -, -⟩ := s.guidance_cases
  · rw [hg]
    exact ⟨rfl, rfl, rfl⟩
  · rw [hg] at h
    exact nomatch h

/-! ### The ceiling's bounds (R139, R141, R144) -/

theorem State.scaled_le (s : State) (base : Int) : s.scaled base ≤ base := min_le_left _ _

/-- AHEAD the ceiling is at most each of its terms, and at most the creep while DOUBTFUL. -/
theorem State.aheadCeiling_le (s : State) (b : Body) (p : Cause × Nat) :
    (∀ t ∈ s.aheadTerms b p, (s.aheadCeiling b p).2 ≤ t.2) ∧
    (s.pos.quality = .doubtful → (s.aheadCeiling b p).2 ≤ s.creep) := by
  unfold State.aheadCeiling
  split
  · rename_i hnone
    have := leastTerm_none hnone
    simp [State.aheadTerms] at this
  · rename_i t ht
    dsimp only
    have hsc := s.scaled_le t.2
    split
    · rename_i h
      exact ⟨fun u hu => (h.2.le.trans hsc).trans (leastTerm_le ht hu), fun _ => le_rfl⟩
    · rename_i h
      have hcreep : s.pos.quality = .doubtful → s.scaled t.2 ≤ s.creep := fun hq => Int.not_lt.mp fun hlt => h ⟨hq, hlt⟩
      split
      · exact ⟨fun u hu => hsc.trans (leastTerm_le ht hu), hcreep⟩
      · rename_i hge
        exact ⟨fun u hu => leastTerm_le ht hu, fun hq => (Int.not_lt.mp hge).trans (hcreep hq)⟩

/-- BACK the ceiling is at most each of its terms. -/
theorem State.backCeiling_le (s : State) (b : Body) (p : Cause × Nat) : ∀ t ∈ s.backTerms b p, (s.backCeiling b p).2 ≤ t.2 := by
  unfold State.backCeiling
  split
  · rename_i hnone
    have := leastTerm_none hnone
    simp [State.backTerms] at this
  · rename_i t ht
    exact fun u hu => leastTerm_le ht hu

/-- The ceiling is at most Vmax (R144), where the creep is. -/
theorem State.guidance_ceiling_le_vmax (s : State) (h : s.creep ≤ s.vmax) : s.guidance.ceiling ≤ s.vmax := by
  obtain ⟨ptl, rear, hg⟩ | ⟨b, ptl, rear, cause, ceiling, hb, hrun, hg, hahead, hback⟩ := s.guidance_cases
  · rw [hg]
    exact Nat.zero_le _
  · rw [hg]
    change ceiling.toNat ≤ s.vmax
    rw [Int.toNat_le]
    cases hs : s.sense with
    | ahead =>
      rw [(hahead hs).2]
      exact (s.aheadCeiling_le b (s.ptl b)).1 (.vmax, s.vmax) (by simp [State.aheadTerms])
    | back =>
      rw [(hback hs).2]
      exact (s.backCeiling_le b (s.rearward b) (.quality, s.creep) (by simp [State.backTerms])).trans (Int.ofNat_le.mpr h)

/-! ### The hand-over (R133, R149, R150) -/

/-- The law of R150 on a drive: without a permit handed over the lines are low and no code stands or waits, and the ceiling
line is high only for a code above 0. -/
structure DriveLaw (d : Drive) : Prop where
  low : d.last.1 = false → d.last.2 = 0 ∧ d.line.permit = false ∧ d.line.code = 0 ∧ d.line.pendingCode = 0
  dark : d.line.high = true → 0 < d.line.code

/-- A hand-over keeps the law: it lowers the code in force at once, and lets the line fall where the new width has passed. -/
theorem Drive.deliver_law (phase : Nat) (g : Guidance) (d : Drive) (hg : g.permit = false → g.code = 0) (h : DriveLaw d) :
    DriveLaw (d.deliver phase g) := by
  unfold Drive.deliver
  split
  · exact h
  · refine ⟨fun hp => ?_, fun hhigh => ?_⟩
    · have hp : g.permit = false := hp
      simp [LineDriver.take, hp, hg hp]
    · simp only [LineDriver.take, Bool.and_eq_true, Bool.not_eq_true', Bool.and_eq_false_iff, decide_eq_false_iff_not,
        Nat.not_lt, Nat.not_le] at hhigh ⊢
      obtain ⟨hold, hwidth⟩ := hhigh
      have hcode := h.dark hold
      rcases hwidth with hsame | hlong
      · exact hcode.trans_le hsame
      · refine Nat.pos_of_ne_zero fun hzero => ?_
        simp [hzero, widthOf] at hlong

theorem Drive.deliver_last (phase : Nat) (g : Guidance) (d : Drive) : (d.deliver phase g).last = (g.permit, g.code) := by
  unfold Drive.deliver
  split
  · assumption
  · rfl

theorem State.setGuide_line (g : Guidance) (d : Drive) (s : State) : (s.setGuide g d).line = d.line := by
  unfold State.setGuide State.raiseIf
  split <;> rfl

/-! ### The Claim Unit's event leaves record and lines -/

/-- The record, the lines and the free values used are as before. -/
structure DriveKept (s t : State) : Prop where
  guide : t.guide = s.guide
  line : t.line = s.line
  choices : t.choices = s.choices

theorem DriveKept.refl (s : State) : DriveKept s s := ⟨rfl, rfl, rfl⟩

theorem DriveKept.trans {s t u : State} (h : DriveKept s t) (k : DriveKept t u) : DriveKept s u :=
  ⟨k.guide.trans h.guide, k.line.trans h.line, k.choices.trans h.choices⟩

theorem DriveKept.drive {s t : State} (h : DriveKept s t) : t.drive = s.drive := by
  simp only [State.drive, h.guide, h.line]

theorem DriveKept.claim (c : ClaimUnit) (s : State) : DriveKept s { s with claim := c } := ⟨rfl, rfl, rfl⟩

theorem State.raiseIf_driveKept (c : Bool) (e : Event) (s : State) : DriveKept s (s.raiseIf c e) := by
  cases c <;> exact ⟨rfl, rfl, rfl⟩

theorem State.makeRoom_driveKept (s : State) (b : Body) : DriveKept s (s.makeRoom b).1 := by
  unfold State.makeRoom
  split
  · exact ⟨rfl, rfl, rfl⟩
  · split
    · exact ⟨rfl, rfl, rfl⟩
    · split
      · exact ⟨rfl, rfl, rfl⟩
      · split <;> exact ⟨rfl, rfl, rfl⟩

theorem State.listChange_driveKept (s : State) : DriveKept s s.listChange := by
  unfold State.listChange
  split
  · split <;> exact ⟨rfl, rfl, rfl⟩
  · exact ⟨rfl, rfl, rfl⟩

theorem ClaimMove.driveKept {s t : State} (h : ClaimMove s t) : DriveKept s t := by
  cases h
  case release =>
    unfold State.releaseBehind
    split <;> exact ⟨rfl, rfl, rfl⟩
  case occupy b acc sp h =>
    unfold State.occupyEntry
    dsimp only
    split
    · exact ⟨rfl, rfl, rfl⟩
    · have hset : ∀ l, DriveKept acc.1 ((acc.1.makeRoom b).1.setClaims l) := fun l =>
        (acc.1.makeRoom_driveKept b).trans ⟨rfl, rfl, rfl⟩
      exact (hset _).trans (State.raiseIf_driveKept _ _ _)
  case faceOff =>
    unfold State.testFaceOff
    split
    · exact ⟨rfl, rfl, rfl⟩
    · dsimp only
      split
      · split <;> exact ⟨rfl, rfl, rfl⟩
      · exact ⟨rfl, rfl, rfl⟩
  case removeFront h =>
    unfold State.removeFront
    split <;> exact ⟨rfl, rfl, rfl⟩
  case fill e he h => exact ⟨rfl, rfl, rfl⟩
  case promote w h => exact ⟨rfl, rfl, rfl⟩
  case wait => exact ⟨rfl, rfl, rfl⟩

theorem ClaimMoves.driveKept {s t : State} (h : ClaimMoves s t) : DriveKept s t :=
  h.rel DriveKept.refl DriveKept.trans fun _ _ hm => hm.driveKept

theorem State.reportLists_driveKept (s : State) : DriveKept s s.reportLists := by
  unfold State.reportLists
  split
  · exact ⟨rfl, rfl, rfl⟩
  · exact (DriveKept.claim _ s).trans (State.listChange_driveKept _)

/-- What follows an event's own effect leaves record and lines. -/
theorem claimEvent_after_driveKept (own : State → State × List Claim) (exam : Bool) (s : State) :
    DriveKept (own s).1 (claimEvent own exam s).1 :=
  claimEvent_rel DriveKept.refl DriveKept.trans (fun _ _ hm => hm.driveKept) State.reportLists_driveKept own exam s

theorem State.trim_driveKept (s : State) : DriveKept s s.trim := s.trim_moves.driveKept

theorem State.testArrival_driveKept (s : State) : DriveKept s s.testArrival := by
  unfold State.testArrival
  split <;> exact ⟨rfl, rfl, rfl⟩

theorem State.recordDouble_driveKept (peer seg : Nat) (s : State) : DriveKept s (s.recordDouble peer seg) := by
  unfold State.recordDouble
  split
  · exact ⟨rfl, rfl, rfl⟩
  · dsimp only
    split <;> exact ⟨rfl, rfl, rfl⟩

theorem doubleHoldWalk_driveKept (b : Body) (p : Peer) (l : List Claim) (s : State) : DriveKept s (doubleHoldWalk b p l s) := by
  induction l generalizing s with
  | nil => exact ⟨rfl, rfl, rfl⟩
  | cons e rest ih =>
    unfold doubleHoldWalk
    split
    · split
      · exact ⟨rfl, rfl, rfl⟩
      · exact (s.recordDouble_driveKept _ _).trans (ih _)
    · exact ih s

theorem OwnEffect.driveKept {own : State → State × List Claim} (h : OwnEffect own) (s : State) : DriveKept s (own s).1 := by
  cases h
  case accepted p =>
    unfold ownAccepted
    dsimp only
    split
    · split
      · exact (DriveKept.claim _ s).trans (doubleHoldWalk_driveKept _ p _ _)
      · exact ⟨rfl, rfl, rfl⟩
    · exact ⟨rfl, rfl, rfl⟩
  case nothing | advertise | removal | saturation | clash | seed | start | routeChange | leaving => exact ⟨rfl, rfl, rfl⟩

theorem claimEvent_driveKept {own : State → State × List Claim} (h : OwnEffect own) (exam : Bool) (s : State) :
    DriveKept s (claimEvent own exam s).1 := (h.driveKept s).trans (claimEvent_after_driveKept own exam s)

/-! ### The law of the permit (O57) -/

/-- The law of the permit: the drive's law, the record's grounds, and no ceiling without a permit. -/
theorem permitLaw_iff (s : State) : PermitLaw s ↔
    DriveLaw s.drive ∧ (s.guide.permit = true → s.permitGrounds) ∧ (s.guide.permit = false → s.guide.ceiling = 0) := by
  constructor
  · intro h
    refine ⟨⟨fun hp => ?_, h.dark⟩, h.grounds, fun hp => (h.low hp).2.2.2.1⟩
    obtain ⟨hline, hcode, hpend, -, hrec⟩ := h.low hp
    exact ⟨hrec, hline, hcode, hpend⟩
  · rintro ⟨hd, hg, hc⟩
    refine ⟨hg, fun hp => ?_, hd.dark⟩
    obtain ⟨hrec, hline, hcode, hpend⟩ := hd.low hp
    exact ⟨hline, hcode, hpend, hc hp, hrec⟩

/-- The law of the permit reads the record, the lines, the station's state and the quality. -/
theorem PermitLaw.of_same {s t : State} (h : PermitLaw s) (hg : t.guide = s.guide) (hl : t.line = s.line)
    (hst : s.ctl.state = .run → t.ctl.state = .run) (hq : s.pos.quality ≠ .none → t.pos.quality ≠ .none) : PermitLaw t where
  grounds := fun hp => by
    rw [hg] at hp
    obtain ⟨h1, h2, h3⟩ := h.grounds hp
    exact ⟨hst h1, hq h2, by rw [hg]; exact h3⟩
  low := by rw [hg, hl]; exact h.low
  dark := by rw [hl]; exact h.dark

/-- A record formed anew, handed over from a drive that keeps the law, meets the law. -/
theorem State.setGuide_permitLaw (g : Guidance) (d : Drive) (s : State) (hg : s.guidance = g) (h : DriveLaw d)
    (hlast : d.last = (g.permit, g.code)) : PermitLaw (s.setGuide g d) := by
  subst hg
  have hf := s.setGuide_frame s.guidance d
  refine (permitLaw_iff _).mpr ⟨⟨fun hp => ?_, fun hp => ?_⟩, fun hp => ?_, fun hp => ?_⟩
  · simp only [State.drive, State.setGuide_guide, State.setGuide_line] at hp ⊢
    have := h.low (hlast ▸ hp)
    rwa [hlast] at this
  · simp only [State.drive, State.setGuide_line] at hp ⊢
    exact h.dark hp
  · rw [State.setGuide_guide] at hp
    obtain ⟨h1, h2, h3⟩ := State.guidance_grounds hp
    exact ⟨by rw [hf.ctl]; exact h1, by rw [hf.quality]; exact h2, by rw [State.setGuide_guide]; exact h3⟩
  · rw [State.setGuide_guide] at hp ⊢
    exact (State.guidance_held hp).1

theorem PermitLaw.drive {s : State} (h : PermitLaw s) : DriveLaw s.drive := ((permitLaw_iff s).mp h).1

/-- A recomputation meets the law where the lines did before (R133, R150). -/
theorem State.recompute_permitLaw (s : State) (h : DriveLaw s.drive) : PermitLaw s.recompute :=
  s.setGuide_permitLaw _ _ rfl (Drive.deliver_law _ _ _ (fun hp => (State.guidance_held hp).2.1) h) (Drive.deliver_last _ _ _)

/-- The free values are no input of the record. -/
theorem State.choices_guidance (s : State) (n : Nat) : ({ s with choices := n } : State).guidance = s.guidance := rfl

/-- A guided event meets the law where the lines did before and its work leaves record and lines. -/
theorem State.guided_permitLaw (k : State → State) (s : State) (hk : DriveKept s (k s)) (h : DriveLaw s.drive) :
    PermitLaw (s.guided k) := by
  have hlaw : ∀ u : State, ∀ d phase, DriveLaw d → DriveLaw (Drive.deliver phase u.guidance d) :=
    fun u d phase => Drive.deliver_law phase _ d fun hp => (State.guidance_held hp).2.1
  have hdirect : DriveLaw ((k s).drive.deliver (k s).phase (k s).guidance) := hlaw _ _ _ (hk.drive ▸ h)
  have hearly : DriveLaw ((s.drive.deliver s.phase s.guidance).deliver (k s).phase (k s).guidance) := hlaw _ _ _ (hlaw _ _ _ h)
  have hchoices := (k s).choices_guidance
  unfold State.guided
  dsimp only
  split
  · exact (k s).setGuide_permitLaw _ _ rfl hdirect (Drive.deliver_last _ _ _)
  · split
    · exact State.setGuide_permitLaw _ _ _ (hchoices _) hearly (Drive.deliver_last _ _ _)
    · exact State.setGuide_permitLaw _ _ _ (hchoices _) hdirect (Drive.deliver_last _ _ _)

theorem State.dropQuality_quality (c : Bool) (s : State) (h : s.pos.quality ≠ .none) : (s.dropQuality c).pos.quality ≠ .none := by
  unfold State.dropQuality
  split
  · exact nofun
  · exact h

theorem State.placed_iff (s : State) : s.placed = true ↔ s.pos.quality ≠ .none := by
  simp [State.placed]

theorem Act.permitLaw {s t : State} (hact : Act s t) (hs : PermitLaw s) : PermitLaw t := by
  cases hact
  case aside h => exact hs.of_same h.guide h.line (fun hr => by rwa [h.ctl]) fun hq => by rwa [h.quality]
  case periodBegin =>
    refine ⟨hs.grounds, fun hp => ?_, fun hhigh => ?_⟩
    · obtain ⟨hline, -, hpend, hceil, hrec⟩ := hs.low hp
      exact ⟨hline, hpend, hpend, hceil, hrec⟩
    · exact of_decide_eq_true hhigh
  case widthEnd =>
    unfold State.widthEnd
    split
    · exact ⟨hs.grounds, hs.low, nofun⟩
    · exact hs
  case resetAssert =>
    refine ⟨hs.grounds, fun hp => ?_, nofun⟩
    obtain ⟨-, hcode, hpend, hceil, hrec⟩ := hs.low hp
    exact ⟨rfl, hcode, hpend, hceil, hrec⟩
  case walkEnd => rw [s.sealWalkEnd_eq]; exact hs.of_same rfl rfl id id
  case credit =>
    have hguide : s.credit.guide = s.guide := by rw [s.credit_eq]
    have hline : s.credit.line = s.line := by rw [s.credit_eq]
    exact hs.of_same hguide hline (fun hr => by rwa [s.credit_ctl]) fun hq =>
      (State.placed_iff _).mp (s.credit_isPlaced.trans ((State.placed_iff s).mpr hq))
  case acceptFix fix hc =>
    unfold State.acceptFix
    split
    · exact hs
    · exact hs.of_same rfl rfl id fun _ => nofun
  case rejectFix err =>
    have hguide : (s.rejectFix err).guide = s.guide := by rw [s.rejectFix_eq]
    have hline : (s.rejectFix err).line = s.line := by rw [s.rejectFix_eq]
    have hctl : (s.rejectFix err).ctl = s.ctl := by rw [s.rejectFix_eq]
    exact hs.of_same hguide hline (fun hr => by rwa [hctl]) fun hq => State.dropQuality_quality _ _ hq
  case coreFix h => exact hs.of_same rfl rfl id fun _ => nofun
  case seed seg off sign hc => exact hs.of_same rfl rfl id fun _ => nofun
  case enter st timer hr hst hm => exact hs.of_same rfl rfl (fun hrun => absurd hrun hr) id
  case report own exam h =>
    obtain ⟨c, hf⟩ := h.claimOnly_frame exam s
    have hkept := claimEvent_driveKept h exam s
    obtain ⟨d, hd⟩ := h.frame s
    have hev := hd.trans (claimEvent_frame own exam s)
    have hsame : PermitLaw (claimEvent own exam s).1 :=
      hs.of_same hkept.guide hkept.line (fun hr => by rw [hev.ctl]; exact hr) fun hq => by rw [hev.quality]; exact hq
    unfold State.claimOnly
    dsimp only
    split
    · exact State.recompute_permitLaw _ hsame.drive
    · exact hsame
  case guided own h => exact State.guided_permitLaw _ s (claimEvent_driveKept h true s) hs.drive
  case reportPosition =>
    exact State.guided_permitLaw _ s ((s.testArrival_driveKept.trans (claimEvent_driveKept .nothing true _)).trans
      (State.trim_driveKept _)) hs.drive
  case reportRoute =>
    exact State.guided_permitLaw _ s (s.testArrival_driveKept.trans (claimEvent_driveKept .routeChange true _)) hs.drive
  case recompute => exact s.recompute_permitLaw hs.drive
  case depart hc => exact State.guided_permitLaw _ _ (claimEvent_driveKept .leaving true _) hs.drive
  case offLine h => exact State.recompute_permitLaw _ hs.drive
  case mapWrite | station | tuning | route | peers => exact hs.of_same rfl rfl id id

theorem permitLaw_reset (s : State) (m : MapStore) (c : StationControl) : PermitLaw (s.resetWith m c) :=
  ⟨nofun, fun _ => ⟨rfl, rfl, rfl, rfl, rfl⟩, nofun⟩

/-- Settles O57: the record and the lines change only where a record is formed anew, at the lines' own events and at a reset. -/
theorem permitInvariant : Obligations.PermitInvariant := fun _ _ hs h =>
  step_keeps (P := PermitLaw) (fun _ _ hact hu => hact.permitLaw hu) (fun _ _ _ _ => permitLaw_reset _ _ _)
    (fun _ _ _ _ _ => permitLaw_reset _ _ _) (fun _ _ hu => hu.of_same rfl rfl id id) hs h

end Sys2Proof.Machine
end

section
/-! PROOFS. The tuning table and the law of the ceiling (R144, R162; O60), and the laws right after reset (O54). -/

namespace Sys2Proof.Machine

/-! ### The tuning table (R162) -/

theorem tuningTable_ordered {i : Nat} {r : Config.TuningRow} (h : Config.tuningTable[i]? = some r) : r.lo ≤ r.hi := by
  have hall : ∀ r ∈ Config.tuningTable, r.lo ≤ r.hi := by decide
  exact hall r (List.mem_of_getElem? h)

/-- The class ceilings range from 0 to 1,000. -/
theorem tuningTable_class {i : Nat} {r : Config.TuningRow} (hi : isClassIndex i = true) (h : Config.tuningTable[i]? = some r) :
    r.lo = 0 ∧ r.hi = 1000 := by
  have hrange : 32 ≤ i ∧ i ≤ 39 := by simpa [isClassIndex] using hi
  have hall : ∀ j < 8, (Config.tuningTable[32 + j]?).map (fun r => (r.lo, r.hi)) = some (0, 1000) := by decide
  have hj := hall (i - 32) (by omega)
  rw [Nat.add_sub_cancel' hrange.1, h] at hj
  simpa using hj

/-- A tuning value of a table that keeps the law lies in its range. -/
theorem TuningLaw.value {t : List Int} (h : TuningLaw t) {i : Nat} {r : Config.TuningRow} (hr : Config.tuningTable[i]? = some r) :
    r.lo ≤ t.getD i 0 ∧ t.getD i 0 ≤ r.hi := by
  have hi : i < t.length := by
    rw [h.size]
    exact (List.getElem?_eq_some_iff.mp hr).1
  have hget : t[i]? = some t[i] := List.getElem?_eq_getElem hi
  rw [List.getD_eq_getElem?_getD, hget]
  exact h.ranges i r _ hr hget

/-- The defaults keep the law. -/
theorem TuningLaw.defaults : TuningLaw Config.tuningDefaults where
  size := List.length_map _
  ranges := fun i r v hr hv => by
    have hall : ∀ r ∈ Config.tuningTable, r.lo ≤ r.dflt ∧ r.dflt ≤ r.hi := by decide
    obtain rfl : r.dflt = v := by simpa [Config.tuningDefaults, hr] using hv
    exact hall r (List.mem_of_getElem? hr)
  classes := fun i v hi hv => by
    have hrange : 32 ≤ i ∧ i ≤ 39 := by simpa [isClassIndex] using hi
    have hall : ∀ j < 8, ∀ v ∈ Config.tuningDefaults[32 + j]?, v ≤ 600 := by decide
    exact hall (i - 32) (by omega) v (by rwa [Nat.add_sub_cancel' hrange.1])

theorem TuningLaw.vmax {t : List Int} (h : TuningLaw t) : 100 ≤ t.getD vmaxIndex 0 ∧ t.getD vmaxIndex 0 ≤ 1000 :=
  h.value (i := 30) (r := ⟨100, 1000, 600⟩) rfl

/-- The creep is below Vmax (R162). -/
theorem TuningLaw.creep_le_vmax {s : State} (h : TuningLaw s.ctl.tuning) : s.creep ≤ s.vmax := by
  have hc := h.value (i := 44) (r := ⟨10, 100, 50⟩) rfl
  have hv := h.vmax
  simp only [State.creep, State.vmax, State.tuning, State.tuningInt]
  simp only [vmaxIndex] at hv
  exact Int.toNat_le_toNat (hc.2.trans hv.1)

/-- A stored value lies in its row's range, and a class ceiling's at Vmax or below. -/
theorem clampTo_range {t : List Int} (h : TuningLaw t) {i : Nat} {r : Int × Int} (hr : tuningRange t i = some r) (v : Int) :
    ∃ row, Config.tuningTable[i]? = some row ∧ row.lo ≤ clampTo r v ∧ clampTo r v ≤ row.hi ∧
      (isClassIndex i = true → clampTo r v ≤ t.getD vmaxIndex 0) := by
  unfold tuningRange at hr
  split at hr
  · rename_i row hrow
    cases hr
    have hord := tuningTable_ordered hrow
    have hv := h.vmax
    refine ⟨row, hrow, le_max_left _ _, ?_, fun hc => ?_⟩
    · cases hc : isClassIndex i
      · simp only [clampTo, Bool.false_eq_true, if_false]
        omega
      · obtain ⟨hlo, hhi⟩ := tuningTable_class hc hrow
        simp only [clampTo, if_true]
        omega
    · obtain ⟨hlo, -⟩ := tuningTable_class hc hrow
      simp only [clampTo, hc, if_true]
      omega
  · exact nomatch hr

/-- The values after a store, index by index. -/
theorem storeTuning_get (t : List Int) (i j : Nat) (v : Int) :
    (storeTuning t i v)[j]? = if i = vmaxIndex ∧ isClassIndex j = true then ((t.set i v)[j]?).map (min · v) else (t.set i v)[j]? := by
  unfold storeTuning
  dsimp only
  split
  · rename_i hi
    rw [List.getElem?_mapIdx]
    cases hj : isClassIndex j <;> simp [hi]
  · rename_i hi
    simp [hi]

theorem storeTuning_length (t : List Int) (i : Nat) (v : Int) : (storeTuning t i v).length = t.length := by
  unfold storeTuning
  dsimp only
  split <;> simp

/-- SET TUNING keeps the table's law: the value is clamped, and a lower Vmax lowers the class ceilings above it (R162). -/
theorem storeTuning_law {t : List Int} (h : TuningLaw t) {i : Nat} {r : Int × Int} (hr : tuningRange t i = some r) (v : Int) :
    TuningLaw (storeTuning t i (clampTo r v)) := by
  obtain ⟨row, hrow, hlo, hhi, hclass⟩ := clampTo_range h hr v
  generalize clampTo r v = x at hlo hhi hclass
  have hilt : i < t.length := by
    rw [h.size]
    exact (List.getElem?_eq_some_iff.mp hrow).1
  have hset : ∀ j y, (t.set i x)[j]? = some y → (j = i ∧ y = x) ∨ (j ≠ i ∧ t[j]? = some y) := by
    intro j y hy
    by_cases hj : j = i
    · subst hj
      rw [List.getElem?_set_self hilt] at hy
      exact .inl ⟨rfl, (Option.some.inj hy).symm⟩
    · rw [List.getElem?_set_ne (Ne.symm hj)] at hy
      exact .inr ⟨hj, hy⟩
  have hranges : ∀ (j : Nat) (r : Config.TuningRow) (y : Int), Config.tuningTable[j]? = some r → (t.set i x)[j]? = some y →
      r.lo ≤ y ∧ y ≤ r.hi := by
    intro j r y hrj hy
    obtain ⟨rfl, rfl⟩ | ⟨-, hy⟩ := hset j y hy
    · rw [hrow] at hrj
      cases hrj
      exact ⟨hlo, hhi⟩
    · exact h.ranges j r y hrj hy
  refine ⟨(storeTuning_length _ _ _).trans h.size, fun j r y hrj hy => ?_, fun j y hj hy => ?_⟩
  · rw [storeTuning_get] at hy
    split at hy
    · rename_i hcond
      obtain ⟨z, hz, rfl⟩ := Option.map_eq_some_iff.mp hy
      obtain ⟨h1, h2⟩ := hranges j r z hrj hz
      obtain ⟨hlo0, -⟩ := tuningTable_class hcond.2 hrj
      obtain ⟨rfl, -⟩ := hcond
      have hrow' : row = ⟨100, 1000, 600⟩ := Option.some.inj (hrow.symm.trans rfl)
      subst hrow'
      simp only at hlo
      omega
    · exact hranges j r y hrj hy
  · have hvmax : (storeTuning t i x).getD vmaxIndex 0 = (t.set i x).getD vmaxIndex 0 := by
      simp [List.getD_eq_getElem?_getD, storeTuning_get, isClassIndex, vmaxIndex]
    rw [hvmax]
    rw [storeTuning_get] at hy
    split at hy
    · rename_i hcond
      obtain ⟨z, -, rfl⟩ := Option.map_eq_some_iff.mp hy
      obtain ⟨rfl, -⟩ := hcond
      rw [List.getD_eq_getElem?_getD, List.getElem?_set_self hilt]
      exact min_le_right _ _
    · rename_i hcond
      have hne : i ≠ vmaxIndex := fun hi => hcond ⟨hi, hj⟩
      have hget : (t.set i x).getD vmaxIndex 0 = t.getD vmaxIndex 0 := by
        rw [List.getD_eq_getElem?_getD, List.getD_eq_getElem?_getD, List.getElem?_set_ne hne]
      rw [hget]
      obtain ⟨rfl, rfl⟩ | ⟨-, hy⟩ := hset j y hy
      · exact hclass hj
      · exact h.classes j y hj hy

/-! ### The law of the ceiling (O60) -/

/-- The law of the ceiling reads the record, the tuning values and the station's state. -/
theorem CeilingLaw.of_same {s t : State} (h : CeilingLaw s) (hg : t.guide = s.guide) (ht : t.ctl.tuning = s.ctl.tuning)
    (hst : s.ctl.state = .run → t.ctl.state = .run) : CeilingLaw t where
  tuning := ht ▸ h.tuning
  vmax := by
    rw [hg, State.vmax, State.tuning, State.tuningInt, ht]
    exact h.vmax
  idle := fun hne => by
    rw [hg]
    exact h.idle fun hr => hne (hst hr)

/-- A record formed anew meets the law (R144). -/
theorem ceilingLaw_current {s t : State} (htun : TuningLaw s.ctl.tuning) (hg : t.guide = s.guidance) (hc : t.ctl = s.ctl) :
    CeilingLaw t where
  tuning := hc ▸ htun
  vmax := by
    rw [hg, State.vmax, State.tuning, State.tuningInt, hc]
    exact s.guidance_ceiling_le_vmax htun.creep_le_vmax
  idle := fun hne => by
    rw [hc] at hne
    rw [hg]
    cases hp : s.guidance.permit
    · exact (State.guidance_held hp).1
    · exact absurd (State.guidance_grounds hp).1 hne

theorem State.recompute_ceilingLaw (s : State) (h : TuningLaw s.ctl.tuning) : CeilingLaw s.recompute :=
  ceilingLaw_current h s.recompute_guide s.recompute_frame.ctl

theorem State.guided_ceilingLaw (k : State → State) (s : State) (hk : (k s).ctl = s.ctl) (h : TuningLaw s.ctl.tuning) :
    CeilingLaw (s.guided k) :=
  ceilingLaw_current (hk ▸ h) (s.guided_guide k) (s.guided_frame k).ctl

theorem claimEvent_ctl {own : State → State × List Claim} (h : OwnEffect own) (exam : Bool) (s : State) :
    (claimEvent own exam s).1.ctl = s.ctl :=
  let ⟨_, hc⟩ := h.frame s
  (hc.trans (claimEvent_frame own exam s)).ctl

theorem Act.ceilingLaw {s t : State} (hact : Act s t) (hs : CeilingLaw s) : CeilingLaw t := by
  cases hact
  case aside h => exact hs.of_same h.guide (by rw [h.ctl]) fun hr => by rwa [h.ctl]
  case widthEnd => rw [s.widthEnd_eq]; exact hs.of_same rfl rfl id
  case walkEnd => rw [s.sealWalkEnd_eq]; exact hs.of_same rfl rfl id
  case tuning i r v hc hr =>
    have hzero : s.guide.ceiling = 0 := hs.idle fun hrun => nomatch hc.symm.trans hrun
    exact ⟨storeTuning_law hs.tuning hr v, hzero.le.trans (Nat.zero_le _), fun _ => hzero⟩
  case credit =>
    have hguide : s.credit.guide = s.guide := by rw [s.credit_eq]
    exact hs.of_same hguide (by rw [s.credit_ctl]) fun hr => by rwa [s.credit_ctl]
  case acceptFix fix hc => rw [s.acceptFix_eq]; exact hs.of_same rfl rfl id
  case rejectFix err => rw [s.rejectFix_eq]; exact hs.of_same rfl rfl id
  case enter st timer hr hst hm => exact hs.of_same rfl rfl fun hrun => absurd hrun hr
  case report own exam h =>
    have hctl := claimEvent_ctl h exam s
    unfold State.claimOnly
    dsimp only
    split
    · exact State.recompute_ceilingLaw _ (hctl ▸ hs.tuning)
    · exact hs.of_same (claimEvent_driveKept h exam s).guide (by rw [hctl]) fun hr => by rwa [hctl]
  case guided own h => exact State.guided_ceilingLaw _ s (claimEvent_ctl h true s) hs.tuning
  case reportPosition =>
    refine State.guided_ceilingLaw _ s ?_ hs.tuning
    exact ((State.trim_frame _).ctl.trans (claimEvent_ctl .nothing true _)).trans s.testArrival_frame.ctl
  case reportRoute =>
    exact State.guided_ceilingLaw _ s ((claimEvent_ctl .routeChange true _).trans s.testArrival_frame.ctl) hs.tuning
  case recompute => exact s.recompute_ceilingLaw hs.tuning
  case depart hc => exact State.guided_ceilingLaw _ _ (claimEvent_ctl .leaving true _) hs.tuning
  case offLine h => exact State.recompute_ceilingLaw _ hs.tuning
  case periodBegin | resetAssert | mapWrite | station | coreFix | seed | route | peers => exact hs.of_same rfl rfl id

/-- Settles O60: SET TUNING keeps the ranges, in CONFIG where there is no ceiling, and each record formed anew ends at Vmax. -/
theorem ceilingInvariant : Obligations.CeilingInvariant := fun _ _ hs h =>
  step_keeps (P := CeilingLaw) (fun _ _ hact hu => hact.ceilingLaw hu)
    (fun _ _ _ _ => ⟨TuningLaw.defaults, Nat.zero_le _, fun _ => rfl⟩)
    (fun _ _ _ ht hu => ⟨(ht.symm ▸ hu.tuning :), Nat.zero_le _, fun _ => rfl⟩) (fun _ _ hu => hu.of_same rfl rfl id) hs h

/-! ### The laws right after reset (O54) -/

/-- Settles O54: every list is empty, the tuning values are the defaults, and no permit stands. -/
theorem resetMeetsLaws : Obligations.ResetMeetsLaws := by
  unfold Obligations.ResetMeetsLaws
  refine ⟨⟨Nat.zero_le _, Nat.zero_le _, Nat.zero_le _, Nat.zero_le _, Nat.zero_le _, Nat.zero_le _⟩, peersDistinct_empty _ rfl, ⟨nofun, fun _ => ⟨rfl, rfl, rfl, rfl, rfl⟩, nofun⟩,
    placeLaw_none _ rfl rfl, sealLaw_config _ rfl nofun nofun, tablesLaw_powerOn, ⟨TuningLaw.defaults, Nat.zero_le _, fun _ => rfl⟩,
    ⟨Nat.zero_le _, Nat.zero_le _, Nat.zero_le _, List.nodup_nil, .nil⟩, claimListLaw_empty _ rfl rfl⟩

end Sys2Proof.Machine
end

section
/-! PROOFS. The queue, the resets and the Command Port (10.5, chapter 11): O1, O3, O4, O5, O7, O8, O9, O12. -/

namespace Sys2Proof.Machine

/-! ### The step (O1) -/

/-- Settles O1: the queue's front is run on the rest; with none the part idles. -/
theorem stepTakesFront : Obligations.StepTakesFront := fun s =>
  ⟨fun c rest h => by simp only [step, h], fun h hr => by simp [step, h, State.idle, hr],
   fun h hr => by simp [step, h, State.idle, hr]⟩

/-! ### Held in reset (O4) -/

theorem State.unlessHeld_held (k : State → State) (s : State) (h : s.pins.resetHeld = true) : s.unlessHeld k = s := by
  rw [State.unlessHeld, if_pos h]

/-- Settles O4: every other row stands behind the reset input. -/
theorem heldInReset : Obligations.HeldInReset := by
  intro c s h
  have hheld : ∀ k, Host.Outcome.next (s.unlessHeld k) = (Host.Outcome.next s : Outcome) := fun k => by
    rw [State.unlessHeld_held k s h]
  refine ⟨fun hpower hassert hrelease hlevel => ?_, ?_⟩
  · cases hcmd : commandOf c with
    | some p => rw [exec_command c p.1 p.2 s hcmd, hheld]
    | none =>
      cases c
      case powerOn a b d => exact absurd rfl (hpower a b d)
      case resetLineAssert => exact absurd rfl hassert
      case resetLineRelease a b => exact absurd rfl (hrelease a b)
      case directionLevelChange => exact absurd rfl hlevel
      all_goals exact hheld _
  · change Host.Outcome.next s.directionLevel = _
    rw [State.directionLevel, if_pos h]
    rfl

/-! ### The resets (O3, O5) -/

theorem arrangeCranes_ids (f : Nat → Nat → Nat) (l : List Nat) : (arrangeCranes f l).map (·.id) = l := by
  simp [arrangeCranes, Function.comp_def]

/-- A crane arranged afresh (R120, R131). -/
theorem arrangeCranes_fresh (f : Nat → Nat → Nat) (l : List Nat) (c : Crane) (h : c ∈ arrangeCranes f l) :
    c.heardAt = none ∧ c.bays.map (·.segment) = [0, 1, 2, 3].map (f c.id) ∧
      ∀ b ∈ c.bays, b.state = .unknown ∧ b.source = .snoop ∧ b.overrideOpen = false := by
  obtain ⟨id, -, rfl⟩ := List.mem_map.mp h
  refine ⟨rfl, by simp [freshBays], fun b hb => ?_⟩
  obtain ⟨g, -, rfl⟩ := List.mem_map.mp hb
  exact ⟨rfl, rfl, rfl⟩

/-- Every kind of reset leaves the blocks at their reset values (R163). -/
theorem State.resetWith_dynamic (s : State) (m : MapStore) (c : StationControl)
    (hc : c.state = .config ∧ c.joinTimer = none) : DynamicReset (s.resetWith m c) where
  config := hc
  race := ⟨by simp [State.resetWith, State.raceTicks, Odometry.atReset], rfl, rfl, rfl⟩
  credit := ⟨rfl, rfl, rfl⟩
  direction := ⟨rfl, rfl⟩
  reader := ⟨rfl, rfl⟩
  pos := rfl
  route := rfl
  link := rfl
  sched := rfl
  peers := rfl
  claim := rfl
  snoop := ⟨rfl, rfl, rfl⟩
  listed := arrangeCranes_ids _ _
  cranes := arrangeCranes_fresh _ _
  guide := rfl
  load := rfl
  line := ⟨rfl, rfl, rfl, rfl, rfl⟩
  port := rfl

/-- Settles O3: the reset rows by the reset they take. -/
theorem resetRows : Obligations.ResetRows := by
  intro id along high s
  refine ⟨fun h => ?_, fun h => ?_, fun h => ?_, fun h => ?_, _, rfl, rfl, rfl⟩
  · refine ⟨_, congrArg Host.Outcome.next (if_neg (Bool.eq_false_iff.mp h)),
      ⟨State.resetWith_dynamic _ _ _ ⟨rfl, rfl⟩, rfl, h, rfl, rfl⟩, rfl⟩
  · exact congrArg Host.Outcome.next (if_pos h)
  · exact ⟨_, congrArg Host.Outcome.next (if_pos h), ⟨State.resetWith_dynamic _ _ _ ⟨rfl, rfl⟩, rfl, rfl, rfl, rfl⟩, rfl⟩
  · exact ⟨_, congrArg Host.Outcome.next (if_neg (Bool.eq_false_iff.mp h)), State.resetWith_dynamic _ _ _ ⟨rfl, rfl⟩, rfl, rfl,
      rfl, rfl, rfl⟩

/-! ### A port that takes, and one that does not -/

/-- Where each act at the port leaves the state, the rows that take a byte and the command rows have no effect. -/
theorem exec_port_idle (s : State) (h : ∀ k : State → State, s.atPort k = s) :
    exec .commandByteTaken s = .next s ∧ exec .parameterByteTaken s = .next s ∧ exec .unknownCommand s = .next s ∧
      ∀ c cmd vals, commandOf c = some (cmd, vals) → exec c s = .next s := by
  have hheld : ∀ k : State → State, k s = s → s.unlessHeld k = s := fun k hk => by
    unfold State.unlessHeld
    split
    · rfl
    · exact hk
  refine ⟨congrArg Host.Outcome.next (hheld _ ?_), congrArg Host.Outcome.next (hheld _ ?_),
    congrArg Host.Outcome.next (hheld _ ?_), fun c cmd vals hc => ?_⟩
  · unfold State.commandByteTaken
    split
    · rfl
    · split
      · exact h _
      · rfl
  · unfold State.parameterByteTaken
    split
    · rfl
    · split
      · rfl
      · exact h _
  · unfold State.unknownCommand
    split
    · split <;> exact h _
    · exact h _
  · rw [exec_command c cmd vals s hc]
    exact congrArg Host.Outcome.next (hheld _ (h _))

theorem exec_replySent (s : State) (h : s.pins.resetHeld = false) : exec .replySent s = .next s.replySent :=
  congrArg Host.Outcome.next (State.unlessHeld_running _ s h)

/-- REPLY_SENT by what the buffer holds once the waiting replies that have room are placed (R163, R169). -/
theorem State.replySent_cons (s : State) (r : List Byte) (rest : List (List Byte)) (h : s.settle.port.placed = r :: rest) :
    s.replySent = if s.settle.port.restarting && rest.isEmpty && s.settle.port.waiting.isEmpty
      then (s.settle.setPort { s.settle.port with placed := rest }).restartReset
      else s.settle.setPort { s.settle.port with placed := rest } := by
  simp only [State.replySent, h]
  rfl

/-- Settles O5: the answer, the shut port, and the reset at the last reply. -/
theorem restartAndItsReset : Obligations.RestartAndItsReset := by
  intro s
  refine ⟨fun h => ?_, fun h => ?_, fun r hrun hre hw hp => ?_⟩
  · rw [exec_taken .restart .restart [] s h rfl rfl]
    rfl
  · exact exec_port_idle s fun k => State.atPort_shut k s (.inr h)
  · refine ⟨_, exec_replySent s hrun, ?_⟩
    have hq : s.settle = s := State.settle_quiet s hw
    rw [State.replySent_cons s r [] (by rw [hq, hp]), hq, hre, hw,
      if_pos (show (true && ([] : List (List Byte)).isEmpty && ([] : List Reply).isEmpty) = true from rfl)]
    exact ⟨State.resetWith_dynamic _ _ _ ⟨rfl, rfl⟩, rfl, rfl, rfl, rfl⟩

/-! ### Replies (O9) -/

/-- A reply without room waits, and so do those after it (R169). -/
theorem CommandPort.placeOne_full (p : CommandPort) (r : Reply) (rest : List Reply) (hw : p.waiting = r :: rest)
    (h : 512 < (p.placed.map List.length).sum + r.data.length + 1) : p.placeOne = p := by
  have hfull : ¬ p.held + (r.data.length + 1) ≤ Config.replyBufferCapacity := by
    simp only [CommandPort.held, Config.replyBufferCapacity]
    omega
  simp only [CommandPort.placeOne, hw, hfull, if_false]

theorem CommandPort.placeMany_full (n : Nat) (p : CommandPort) (h : p.placeOne = p) : CommandPort.placeMany n p = p := by
  induction n with
  | zero => rfl
  | succ n ih => rw [CommandPort.placeMany, h, ih]

theorem State.settle_full (s : State) (h : s.port.placeOne = s.port) : s.settle = s := by
  simp only [State.settle, CommandPort.placeAll, CommandPort.placeMany_full _ _ h]
  rfl

/-- The bits of a reply byte (R180). -/
theorem replyByte_toNat (st : Status) (overrun stray : Bool) :
    (replyByte st overrun stray).toNat = 128 + st.code + (if overrun then 16 else 0) + (if stray then 32 else 0) := by
  have := st.code_lt
  simp only [replyByte, BitVec.toNat_ofNat]
  refine Nat.mod_eq_of_lt ?_
  split <;> split <;> omega

/-- The state with its oldest waiting reply placed. -/
theorem State.replyPlace_room (s : State) (r : Reply) (rest : List Reply) (hw : s.port.waiting = r :: rest)
    (h : (s.port.placed.map List.length).sum + r.data.length + 1 ≤ 512) :
    s.replyPlace = { s with port := { s.port with
      waiting := rest, placed := s.port.placed ++ [s.port.bytesOf r], overrun := false, stray := false } } := by
  rw [State.replyPlace, CommandPort.placeOne_room s.port r rest hw h]
  rfl

theorem exec_replyPlace (s : State) (h : s.pins.resetHeld = false) : exec .replyPlace s = .next s.replyPlace :=
  congrArg Host.Outcome.next (State.unlessHeld_running _ s h)

/-- Placing the oldest waiting reply is the first step of placing them all. -/
theorem State.settle_replyPlace (s : State) (r : Reply) (rest : List Reply) (hw : s.port.waiting = r :: rest)
    (h : (s.port.placed.map List.length).sum + r.data.length + 1 ≤ 512) : s.replyPlace.settle = s.settle := by
  have hone := State.replyPlace_room s r rest hw h
  simp only [State.replyPlace, State.setPort, State.mk.injEq] at hone
  simp only [State.settle, CommandPort.placeAll, State.replyPlace, State.setPort, hw, List.length_cons, CommandPort.placeMany]
  rw [CommandPort.placeOne_room s.port r rest hw h]

/-- Settles O9: placing and sending by the room of the buffer. -/
theorem repliesPlacedAndSent : Obligations.RepliesPlacedAndSent := by
  refine ⟨rfl, fun s w ws hw hfull => ?_, fun s hrun => ⟨fun hw => ?_, fun r rest hw => ⟨fun hroom => ?_, fun hfull => ?_⟩,
    fun hw hp => ?_, fun r rest hw hp hre => ?_, fun w ws hw => ⟨fun hroom u hu => ?_, fun r rest hfull hp => ?_⟩⟩⟩
  · have hset := State.settle_full s (CommandPort.placeOne_full s.port w ws hw hfull)
    have hbusy : s.settle.busy = true := by simp [hset, State.busy, hw]
    exact exec_port_idle s fun k => by rw [State.atPort, if_pos hbusy]
  · have hone : s.port.placeOne = s.port := by simp only [CommandPort.placeOne, hw]
    rw [exec_replyPlace s hrun, State.replyPlace, hone]
    rfl
  · exact ⟨_, replyByte_toNat _ _ _, by rw [exec_replyPlace s hrun, State.replyPlace_room s r rest hw hroom]; rfl⟩
  · rw [exec_replyPlace s hrun, State.replyPlace, CommandPort.placeOne_full s.port r rest hw hfull]
    rfl
  · rw [exec_replySent s hrun, State.replySent]
    simp only [State.settle_quiet s hw, hp]
  · rw [exec_replySent s hrun, State.replySent_cons s r rest (by rw [State.settle_quiet s hw, hp]), State.settle_quiet s hw]
    have hstay : (s.port.restarting && rest.isEmpty && s.port.waiting.isEmpty) = false := by
      rcases hre with hre | hre
      · simp [hre]
      · simp [hre]
    rw [hstay]
    rfl
  · rw [exec_replyPlace s hrun] at hu
    obtain rfl := Host.Outcome.next.inj hu
    rw [exec_replySent s hrun, exec_replySent s.replyPlace hrun, State.replySent, State.replySent,
      State.settle_replyPlace s w ws hw hroom]
  · have hset := State.settle_full s (CommandPort.placeOne_full s.port w ws hw hfull)
    rw [exec_replySent s hrun, State.replySent_cons s r rest (by rw [hset, hp]), hset, hw]
    simp only [List.isEmpty_cons, Bool.and_false, Bool.false_eq_true, if_false]
    rfl

/-! ### The command bytes and the parameter widths (O7) -/

/-- The command bytes and the parameter widths of the commands of fixed length (R179). -/
def commandTable : List (Nat × Cmd × List Nat) :=
  [(0x81, .setStation, [1, 1]), (0x82, .setTuning, [1, 3]), (0x83, .mapWindow, [2, 2]),
   (0x84, .mapSegment, [3, 1, 1, 2, 2, 2, 2, 2, 2, 1, 1]), (0x85, .mapSeal, []), (0x86, .mapClear, []),
   (0x87, .tagWindow, [2, 2]), (0x88, .tagWrite, [4, 2, 3]), (0x89, .windowWrite, [2, 3, 3, 2]),
   (0x8A, .craneList, [1, 1, 1, 1, 1, 1, 1, 1, 1]), (0x90, .start, []), (0x91, .leave, []), (0x92, .restart, []),
   (0xA0, .setPosition, [2, 3, 1]), (0xA2, .routeClear, []), (0xA3, .setLoad, [1]), (0xA4, .setPriority, [1]),
   (0xA5, .bayControl, [1, 1, 1, 1, 1, 1]), (0xA6, .stillControl, [1, 1]), (0xA7, .clearPeer, [2]), (0xC0, .readStatus, []),
   (0xC1, .readGuidance, []), (0xC2, .readPosition, []), (0xC3, .readRoute, []), (0xC4, .readClaims, []),
   (0xC5, .readPeer, [1]), (0xC6, .readBays, []), (0xC7, .readCounters, [1]), (0xC8, .readEvents, [])]

theorem Cmd.ofByte_eq_lookup (b : Byte) :
    Cmd.ofByte b = if b = 0xA1#8 then some .route else (commandTable.lookup b.toNat).map Prod.fst := by
  revert b
  decide

theorem Cmd.ofByte_iff (b : Byte) (c : Cmd) :
    Cmd.ofByte b = some c ↔ (b = 0xA1#8 ∧ c = .route) ∨ ∃ row ∈ commandTable, row.1 = b.toNat ∧ row.2.1 = c := by
  have hkeys : ∀ row ∈ commandTable, commandTable.lookup row.1 = some row.2 ∧ row.1 ≠ 0xA1 := by decide
  rw [Cmd.ofByte_eq_lookup]
  constructor
  · intro h
    split at h
    · rename_i hb
      exact .inl ⟨hb, (Option.some.inj h).symm⟩
    · obtain ⟨p, hp, rfl⟩ := Option.map_eq_some_iff.mp h
      obtain ⟨l₁, l₂, hl, -⟩ := List.lookup_eq_some_iff.mp hp
      exact .inr ⟨(b.toNat, p), by simp [hl], rfl, rfl⟩
  · rintro (⟨rfl, rfl⟩ | ⟨row, hrow, hb, rfl⟩)
    · rfl
    · obtain ⟨hlook, hne⟩ := hkeys row hrow
      have hnot : b ≠ 0xA1#8 := by
        rintro rfl
        exact hne hb
      rw [if_neg hnot, ← hb, hlook]
      rfl

/-- A byte that names a command has its top bit set (R165). -/
theorem Cmd.ofByte_msb (b : Byte) (h : (Cmd.ofByte b).isSome = true) : b.msb = true := by
  revert b
  decide

theorem Cmd.nextWidth_fixed (c : Cmd) (vals : List Nat) (h : c ≠ .route) : c.nextWidth vals = c.widths[vals.length]? := by
  cases c
  case route => exact absurd rfl h
  all_goals rfl

/-- ROUTE's parameters after its count (R179). -/
theorem routeWidth_after (mode n : Nat) (head l : List Nat) (h : head.length + 2 = routeHeader mode) :
    routeWidth (mode :: head ++ n :: l) = if l.length < n then some 2 else if l.length = n then some 1
      else if l.length = n + 1 then some 3 else none := by
  have hcount : (mode :: head ++ n :: l).getD (routeHeader mode - 1) 0 = n := by
    rw [← h, List.getD_append_right _ _ _ _ (by simp), List.length_cons]
    simp
  have hlen : (mode :: head ++ n :: l).length = routeHeader mode + l.length := by
    simp only [List.length_append, List.length_cons]
    omega
  have hunfold : routeWidth (mode :: head ++ n :: l) =
      let k := (mode :: head ++ n :: l).length
      let m := (mode :: head ++ n :: l).getD (routeHeader mode - 1) 0
      if k < routeHeader mode then some 1 else if k < routeHeader mode + m then some 2
        else if k = routeHeader mode + m then some 1 else if k = routeHeader mode + m + 1 then some 3 else none := rfl
  rw [hunfold]
  dsimp only
  have hpast : ¬ routeHeader mode + l.length < routeHeader mode := by omega
  simp only [hcount, hlen, hpast, if_false, Nat.add_lt_add_iff_left, Nat.add_assoc, Nat.add_left_cancel_iff]

/-! ### Bytes taken (O7, O8) -/

theorem State.popByte_eq (s : State) (b : Byte) (rest : List Byte) (h : s.port.rx = b :: rest) :
    s.popByte = { s with port := { s.port with rx := rest } } := by
  rw [State.popByte, h]
  rfl

theorem exec_commandByteTaken (s : State) (b : Byte) (rest : List Byte) (h : PortTakes s) (hb : s.port.rx = b :: rest)
    (hm : b.msb = true) : exec .commandByteTaken s =
      .next (({ s with port := { s.port with rx := rest } } : State).takeCommandByte b) := by
  change Host.Outcome.next (s.unlessHeld _) = _
  rw [State.unlessHeld_running _ s h.running, State.commandByteTaken, hb]
  simp only [hm, if_true, State.atPort_open _ s h.walk h.restart h.waiting, State.popByte_eq s b rest hb]

theorem exec_parameterByteTaken (s : State) (b : Byte) (rest : List Byte) (h : PortTakes s) (hb : s.port.rx = b :: rest)
    (hm : b.msb = false) : exec .parameterByteTaken s =
      .next (({ s with port := { s.port with rx := rest } } : State).takeParameterByte b) := by
  change Host.Outcome.next (s.unlessHeld _) = _
  rw [State.unlessHeld_running _ s h.running, State.parameterByteTaken, hb]
  simp only [hm, Bool.false_eq_true, if_false, State.atPort_open _ s h.walk h.restart h.waiting, State.popByte_eq s b rest hb]

theorem exec_unknownCommand (s : State) (b : Byte) (rest : List Byte) (h : PortTakes s) (hb : s.port.rx = b :: rest)
    (hm : b.msb = true) (hc : Cmd.ofByte b = none) : exec .unknownCommand s =
      .next (({ s with port := { s.port with rx := rest } } : State).takeCommandByte b) := by
  change Host.Outcome.next (s.unlessHeld _) = _
  rw [State.unlessHeld_running _ s h.running, State.unknownCommand, hb]
  simp only [hm, hc, Option.isNone_none, Bool.and_self, if_true, State.atPort_open _ s h.walk h.restart h.waiting,
    State.popByte_eq s b rest hb, State.takeCommandByte]

/-- With no command open nothing is broken. -/
theorem State.breakOpen_closed (s : State) (h : s.port.openCmd = none) : s.breakOpen = s := by
  simp only [State.breakOpen, h]

/-- A break hands the open command over with its complete parameters (R166). -/
theorem State.breakOpen_open (s : State) (o : OpenCommand) (h : s.port.openCmd = some o) :
    s.breakOpen = State.handOver o.cmd o.values { s with port := { s.port with openCmd := none } } := by
  simp only [State.breakOpen, h]
  rfl

theorem State.openCommand_complete (c : Cmd) (s : State) (h : c.nextWidth [] = none) : s.openCommand c = s.handOver c [] := by
  simp only [State.openCommand, h]

theorem State.openCommand_opens (c : Cmd) (w : Nat) (s : State) (h : c.nextWidth [] = some w) :
    s.openCommand c = { s with port := { s.port with openCmd := some { cmd := c, values := [], acc := 0, got := 0 } } } := by
  simp only [State.openCommand, h]
  rfl

theorem State.takeCommandByte_known (b : Byte) (c : Cmd) (s : State) (h : Cmd.ofByte b = some c) :
    s.takeCommandByte b = s.breakOpen.openCommand c := by
  simp only [State.takeCommandByte, h]

theorem State.takeCommandByte_unknown (b : Byte) (s : State) (h : Cmd.ofByte b = none) :
    s.takeCommandByte b = s.breakOpen.replied .unknownCommand [] := by
  simp only [State.takeCommandByte, h]
  rfl

/-- Settles O7: the table by a look-up, then a byte taken with and without an open command. -/
theorem commandBytes : Obligations.CommandBytes := by
  refine ⟨⟨Cmd.ofByte_iff, fun row hrow vals => ?_, rfl, rfl, fun mode sign n l => ⟨rfl, ?_, fun hmode => ⟨?_, ?_⟩⟩⟩,
    fun s h hrx => ?_, fun s b rest h hb => ⟨fun hclosed => ?_, fun o ho => ?_⟩⟩
  · have htable : ∀ row ∈ commandTable, row.2.1 ≠ .route ∧ row.2.1.widths = row.2.2 := by decide
    obtain ⟨hne, hw⟩ := htable row hrow
    rw [Cmd.nextWidth_fixed _ _ hne, hw]
  · exact routeWidth_after 0 n [sign] l rfl
  · simp [Cmd.nextWidth, routeWidth, routeHeader, hmode]
  · exact routeWidth_after mode n [] l (by simp [routeHeader, hmode])
  · change Host.Outcome.next (s.unlessHeld _) = _
    rw [State.unlessHeld_running _ s h.running, State.unknownCommand, hrx]
    simp only [State.atPort_open _ s h.walk h.restart h.waiting, State.breakOpen_closed s h.closed]
    rfl
  · have hmsb : ∀ c, Cmd.ofByte b = some c → b.msb = true := fun c hc => Cmd.ofByte_msb b (by rw [hc]; rfl)
    generalize hs1 : ({ s with port := { s.port with rx := rest } } : State) = s1
    have hbreak : s1.breakOpen = s1 := State.breakOpen_closed _ (by rw [← hs1]; exact hclosed)
    refine ⟨fun c hc hw => ?_, fun c w hc hw => ?_, fun hc hm => ⟨?_, ?_⟩⟩
    · rw [exec_commandByteTaken s b rest h hb (hmsb c hc), hs1, State.takeCommandByte_known b c _ hc, hbreak,
        State.openCommand_complete c _ hw]
    · rw [exec_commandByteTaken s b rest h hb (hmsb c hc), hs1, State.takeCommandByte_known b c _ hc, hbreak,
        State.openCommand_opens c w _ hw, ← hs1]
    · rw [exec_commandByteTaken s b rest h hb hm, hs1, State.takeCommandByte_unknown b _ hc, hbreak]
    · rw [exec_unknownCommand s b rest h hb hm hc, hs1, State.takeCommandByte_unknown b _ hc, hbreak]
  · have hmsb : ∀ c, Cmd.ofByte b = some c → b.msb = true := fun c hc => Cmd.ofByte_msb b (by rw [hc]; rfl)
    dsimp only
    generalize hu : State.handOver o.cmd o.values { s with port := { s.port with rx := rest, openCmd := none } } = u
    have hbreak : ({ s with port := { s.port with rx := rest } } : State).breakOpen = u :=
      (State.breakOpen_open { s with port := { s.port with rx := rest } } o ho).trans hu
    refine ⟨fun c hc hw => ?_, fun c w hc hw => ?_, fun hc hm => ⟨?_, ?_⟩⟩
    · rw [exec_commandByteTaken s b rest h hb (hmsb c hc), State.takeCommandByte_known b c _ hc, hbreak,
        State.openCommand_complete c _ hw]
    · rw [exec_commandByteTaken s b rest h hb (hmsb c hc), State.takeCommandByte_known b c _ hc, hbreak,
        State.openCommand_opens c w _ hw]
    · rw [exec_commandByteTaken s b rest h hb hm, State.takeCommandByte_unknown b _ hc, hbreak]
    · rw [exec_unknownCommand s b rest h hb hm hc, State.takeCommandByte_unknown b _ hc, hbreak]

theorem BitVec.toNat_lt_of_msb_false (b : Byte) (h : b.msb = false) : b.toNat < 128 := by
  rw [BitVec.msb_eq_false_iff_two_mul_lt] at h
  omega

theorem OpenCommand.addByte_eq (o : OpenCommand) (b : Byte) (h : b.msb = false) :
    o.addByte b = { o with acc := 128 * o.acc + b.toNat, got := o.got + 1 } := by
  rw [OpenCommand.addByte, Nat.mod_eq_of_lt (BitVec.toNat_lt_of_msb_false b h)]

/-- A byte of a parameter not yet complete (R165). -/
theorem State.addParameter_joins (b : Byte) (o : OpenCommand) (w : Nat) (s : State) (hw : o.cmd.nextWidth o.values = some w)
    (h : (o.addByte b).got < w) : s.addParameter b o = s.setPort { s.port with openCmd := some (o.addByte b) } := by
  simp only [State.addParameter, hw, h, if_true]

/-- The last byte of a parameter that is not the last (R165). -/
theorem State.addParameter_ends (b : Byte) (o : OpenCommand) (w w' : Nat) (s : State)
    (hw : o.cmd.nextWidth o.values = some w) (h : ¬ (o.addByte b).got < w)
    (hw' : o.cmd.nextWidth (o.addByte b).endParameter.values = some w') :
    s.addParameter b o = s.setPort { s.port with openCmd := some (o.addByte b).endParameter } := by
  have hcmd : (o.addByte b).cmd = o.cmd := rfl
  simp only [State.addParameter, hw, h, if_false, hcmd, hw']

/-- The last byte of the last parameter (R165). -/
theorem State.addParameter_completes (b : Byte) (o : OpenCommand) (w : Nat) (s : State)
    (hw : o.cmd.nextWidth o.values = some w) (h : ¬ (o.addByte b).got < w)
    (hw' : o.cmd.nextWidth (o.addByte b).endParameter.values = none) :
    s.addParameter b o =
      (s.setPort { s.port with openCmd := none }).handOver o.cmd (o.addByte b).endParameter.values := by
  have hcmd : (o.addByte b).cmd = o.cmd := rfl
  simp only [State.addParameter, hw, h, if_false, hcmd, hw']

theorem State.takeParameterByte_open (b : Byte) (o : OpenCommand) (s : State) (h : s.port.openCmd = some o) :
    s.takeParameterByte b = s.addParameter b o := by
  simp only [State.takeParameterByte, h]

/-- A parameter byte with no command open is stray (R167). -/
theorem State.takeParameterByte_stray (b : Byte) (s : State) (h : s.port.openCmd = none) :
    s.takeParameterByte b = s.setPort { s.port with stray := true } := by
  unfold State.takeParameterByte
  split
  · rename_i o ho
    exact nomatch h.symm.trans ho
  · rfl

/-- Settles O8: a parameter byte without an open command, and with one by what its parameter lacks. -/
theorem parameterBytes : Obligations.ParameterBytes := by
  intro s b rest h hb hm
  rw [exec_parameterByteTaken s b rest h hb hm]
  generalize hs1 : ({ s with port := { s.port with rx := rest } } : State) = s1
  refine ⟨fun hclosed => ?_, fun o w ho hw => ?_⟩
  · have hclosed1 : s1.port.openCmd = none := by rw [← hs1]; exact hclosed
    rw [State.takeParameterByte_stray b s1 hclosed1, ← hs1]
    rfl
  · have ho1 : s1.port.openCmd = some o := by rw [← hs1]; exact ho
    have hadd := OpenCommand.addByte_eq o b hm
    rw [State.takeParameterByte_open b o s1 ho1]
    refine ⟨fun hgot => ?_, fun hgot w' hw' => ?_, fun hgot hw' => ?_⟩
    · rw [State.addParameter_joins b o w s1 hw hgot, hadd, ← hs1]
      rfl
    · rw [State.addParameter_ends b o w w' s1 hw (Nat.not_lt.mpr hgot) (by rw [hadd]; exact hw'), hadd, ← hs1]
      rfl
    · rw [State.addParameter_completes b o w s1 hw (Nat.not_lt.mpr hgot) (by rw [hadd]; exact hw'), hadd, ← hs1]
      rfl

/-! ### Packing (O12) -/

theorem groups_length (g v : Nat) : (groups g v).length = g := by
  induction g with
  | zero => rfl
  | succ g ih => rw [groups, List.length_cons, ih]

/-- The value of one group of seven bits (R179). -/
theorem groups_head (g v : Nat) : (BitVec.ofNat 8 (v / 128 ^ g % 128)).toNat = v / 128 ^ g % 128 := by
  rw [BitVec.toNat_ofNat]
  exact Nat.mod_eq_of_lt (by have := Nat.mod_lt (v / 128 ^ g) (by decide : 0 < 128); omega)

theorem groups_msb (g v : Nat) : ∀ b ∈ groups g v, b.msb = false := by
  induction g with
  | zero => exact nofun
  | succ g ih =>
    refine List.forall_mem_cons.mpr ⟨?_, ih⟩
    rw [BitVec.msb_eq_false_iff_two_mul_lt, groups_head]
    have := Nat.mod_lt (v / 128 ^ g) (by decide : 0 < 128)
    omega

/-- Taking a value's groups adds its low digits after what was taken (R165, R179). -/
theorem groups_foldl (g v : Nat) (o : OpenCommand) :
    (groups g v).foldl (fun o b => o.addByte b) o = { o with acc := o.acc * 128 ^ g + v % 128 ^ g, got := o.got + g } := by
  induction g generalizing o with
  | zero => simp [groups, Nat.mod_one]
  | succ g ih =>
    rw [groups, List.foldl_cons, ih]
    simp only [OpenCommand.addByte, groups_head, Nat.mod_mod, OpenCommand.mk.injEq, true_and]
    refine ⟨?_, by omega⟩
    rw [Nat.pow_succ, Nat.mod_mul, Nat.add_mul]
    ring

/-- Settles O12. -/
theorem parameterPacking : Obligations.ParameterPacking := fun g v h =>
  ⟨groups_length g v, groups_msb g v, fun o ha hg => by
    rw [groups_foldl, ha, hg, Nat.mod_eq_of_lt h]
    simp⟩

end Sys2Proof.Machine
end

section
/-! PROOFS. Identity, tuning and the map commands (10.4, chapter 1): O13 to O19, O21. -/

namespace Sys2Proof.Machine

/-- A row that is a command of CONFIG, at a free port there: the owner's answer. -/
theorem exec_config (i : Instr) (c : Cmd) (vals : List Nat) (s : State) (h : PortFree s) (hst : s.ctl.state = .config)
    (hi : commandOf i = some (c, vals)) (hc : c.takenIn .config = true) :
    exec i s = .next ((c.run vals s).1.queueReply (c.run vals s).2) :=
  exec_taken i c vals s h hi (by rw [hst]; exact hc)

/-! ### SET STATION (O13) -/

theorem ownSetStation_set (id o : Nat) (rest : List Nat) (s : State) (h1 : 1 ≤ id) (h2 : id ≤ 62) (h3 : o ≤ 1) :
    ownSetStation (id :: o :: rest) s =
      (s.setCtl { s.ctl with id := id, orientation := orientationOf o }, some (Reply.plain .done)) := by
  have hok : ¬ (id < 1 ∨ 62 < id ∨ 1 < o) := by omega
  simp only [ownSetStation, hok, if_false]

theorem ownSetStation_refused (id o : Nat) (rest : List Nat) (s : State) (h : id < 1 ∨ 62 < id ∨ 1 < o) :
    ownSetStation (id :: o :: rest) s = s.refuse .refusedValue := by
  simp only [ownSetStation, h, if_true]

/-- Settles O13. -/
theorem setStation : Obligations.SetStation := by
  intro s id o hfree hst
  rw [exec_config (.setStation id o) .setStation [id, o] s hfree hst rfl rfl]
  refine ⟨fun h1 h2 h3 => ?_, fun h => ?_⟩
  · rw [Cmd.run, ownSetStation_set id o [] s h1 h2 h3]
    rfl
  · rw [Cmd.run, ownSetStation_refused id o [] s h]
    rfl

/-! ### SET TUNING (O14) -/

theorem tuningRange_none (t : List Int) (i : Nat) (h : Config.tuningTable[i]? = none) : tuningRange t i = none := by
  simp only [tuningRange, h]

theorem tuningRange_some (t : List Int) (i : Nat) (r : Config.TuningRow) (h : Config.tuningTable[i]? = some r) :
    tuningRange t i = some (r.lo, if isClassIndex i then t.getD vmaxIndex 0 else r.hi) := by
  simp only [tuningRange, h]

theorem ownSetTuning_outside (i v : Nat) (rest : List Nat) (s : State) (h : Config.tuningTable[i]? = none) :
    ownSetTuning (i :: v :: rest) s = s.refuse .refusedValue := by
  simp only [ownSetTuning, tuningRange_none _ _ h]

theorem ownSetTuning_stored (i v : Nat) (rest : List Nat) (s : State) (r : Int × Int) (h : tuningRange s.ctl.tuning i = some r) :
    ownSetTuning (i :: v :: rest) s =
      ((s.setCtl { s.ctl with tuning := storeTuning s.ctl.tuning i (clampTo r (tuningGiven i v)) }).followMotion,
       some { status := if clampTo r (tuningGiven i v) = tuningGiven i v then .done else .doneClamped,
              data := tuningData i (clampTo r (tuningGiven i v)) }) := by
  simp only [ownSetTuning, h]

/-- A motion that stays is no change and no report (R37). -/
theorem State.followMotion_same (s : State) (h : s.effectiveMotion = s.pos.motion) : s.followMotion = s := by
  have hsame : s.updateMotion = s := by rw [State.updateMotion, h]
  simp only [State.followMotion, hsame, ne_eq, not_true_eq_false, decide_false, State.reportIf, Bool.false_eq_true, if_false]

/-- A changed motion is reported once (R27, R37). -/
theorem State.followMotion_changed (s : State) (h : s.effectiveMotion ≠ s.pos.motion) :
    s.followMotion = State.reportPosition { s with pos := { s.pos with motion := s.effectiveMotion } } := by
  have hmotion : s.updateMotion.pos.motion ≠ s.pos.motion := h
  simp only [State.followMotion, hmotion, ne_eq, not_false_eq_true, decide_true, State.reportIf, if_true]
  rfl

/-- Settles O14: the range of the index, the store, and the motion that follows. -/
theorem setTuning : Obligations.SetTuning := by
  intro s i v hfree hst hlen
  rw [exec_config (.setTuning i v) .setTuning [i, v] s hfree hst rfl rfl]
  refine ⟨fun h => ?_, fun r hr => ?_⟩
  · rw [Cmd.run, ownSetTuning_outside i v [] s h]
    rfl
  · have hclass : (isClassIndex i = true) = (32 ≤ i ∧ i ≤ 39) := by simp [isClassIndex]
    have hrange := tuningRange_some s.ctl.tuning i r hr
    have hgiven : (if i = 43 then signed21 v else (v : Int)) = tuningGiven i v := rfl
    have hhi : (if 32 ≤ i ∧ i ≤ 39 then s.ctl.tuning.getD 30 0 else r.hi) =
        (if isClassIndex i then s.ctl.tuning.getD vmaxIndex 0 else r.hi) := by simp only [hclass]; rfl
    dsimp only
    rw [hgiven, hhi, Cmd.run, ownSetTuning_stored i v [] s _ hrange]
    have hclamp : max r.lo (min (if isClassIndex i then s.ctl.tuning.getD vmaxIndex 0 else r.hi) (tuningGiven i v)) =
        clampTo (r.lo, if isClassIndex i then s.ctl.tuning.getD vmaxIndex 0 else r.hi) (tuningGiven i v) := rfl
    rw [hclamp]
    generalize clampTo (r.lo, if isClassIndex i then s.ctl.tuning.getD vmaxIndex 0 else r.hi) (tuningGiven i v) = x
    have hi : i < s.ctl.tuning.length := by
      rw [hlen]
      exact (List.getElem?_eq_some_iff.mp hr).1
    generalize hu : s.setCtl { s.ctl with tuning := storeTuning s.ctl.tuning i x } = u
    have hmotion : (if s.pos.force then Motion.still else if s.pos.detect then
        (if ((storeTuning s.ctl.tuning i x).getD 9 0).toNat ≤ s.pos.stillCount then .still else .moving) else .moving) =
        u.effectiveMotion := by rw [← hu]; rfl
    have hdata : tuningData i x = groups 1 i ++ packSigned 3 x := by
      rw [tuningData, pack, if_pos (by omega)]
    refine ⟨storeTuning s.ctl.tuning i x, u.followMotion, by rw [hdata]; rfl, ?_, (storeTuning_length _ _ _).trans hlen, ?_,
      fun hne j hj => ?_, fun he j hj => ?_⟩
    · rw [hmotion]
      refine ⟨fun h => ?_, fun h => ?_, ?_⟩
      · rw [u.followMotion_same (by rw [h, ← hu]; rfl), ← hu]
        rfl
      · rw [u.followMotion_changed (by rw [← hu] at h ⊢; exact h), ← hu]
        rfl
      · have hf := u.followMotion_frame
        rw [← hu] at hf ⊢
        exact hf
    · rw [storeTuning_get, List.getElem?_set_self hi]
      split
      · rename_i h
        obtain ⟨rfl, hcl⟩ := h
        exact absurd hcl (by decide)
      · rfl
    · rw [storeTuning_get, if_neg fun h => hne h.1, List.getElem?_set_ne (Ne.symm hj)]
    · have hj30 : (isClassIndex j = true) = (32 ≤ j ∧ j ≤ 39) := by simp [isClassIndex]
      have hv : i = vmaxIndex := he
      rw [storeTuning_get, List.getElem?_set_ne (Ne.symm hj)]
      simp only [hj30]
      by_cases hc : 32 ≤ j ∧ j ≤ 39
      · simp only [hv, hc, and_self, if_true]
      · simp only [hv, hc, and_false, if_false, Option.map_id']

/-! ### MAP WINDOW and TAG WINDOW (O15) -/

theorem windowCommand_aimed (top a b : Nat) (c : Cursor) (rest : List Nat) (h1 : a ≤ top) (h2 : b ≤ top) (h3 : a ≤ b) :
    windowCommand top c (a :: b :: rest) = (some (Cursor.aim a b), Reply.plain .done) := by
  have hok : ¬ (top < a ∨ top < b ∨ b < a) := by omega
  simp only [windowCommand, hok, if_false]

theorem windowCommand_refused (top a b : Nat) (c : Cursor) (rest : List Nat) (h : top < a ∨ top < b ∨ b < a) :
    windowCommand top c (a :: b :: rest) = (none, Reply.plain .refusedValue) := by
  simp only [windowCommand, h, if_true]

/-- Settles O15: one window command over two tops. -/
theorem mapWindows : Obligations.MapWindows := by
  intro s a b hfree hst
  rw [exec_config (.mapWindow a b) .mapWindow [a, b] s hfree hst rfl rfl,
    exec_config (.tagWindow a b) .tagWindow [a, b] s hfree hst rfl rfl]
  simp only [Cmd.run, ownMapWindow, ownTagWindow]
  refine ⟨fun h1 h2 h3 => ?_, fun h => ?_, fun h1 h2 h3 => ?_, fun h => ?_⟩
  · rw [windowCommand_aimed 1022 a b _ [] h1 h2 h3]
    rfl
  · rw [windowCommand_refused 1022 a b _ [] h]
    rfl
  · rw [windowCommand_aimed 511 a b _ [] h1 h2 h3]
    rfl
  · rw [windowCommand_refused 511 a b _ [] h]
    rfl

/-! ### Record writes (O16, O17) -/

theorem Cursor.past_iff (c : Cursor) : c.past = true ↔ c.last < c.counter := by simp [Cursor.past]

theorem Cursor.past_false (c : Cursor) (h : c.counter ≤ c.last) : c.past = false := by simp [Cursor.past, h]

/-- The kind a code names, within the limits of R9. -/
theorem kindOf_eq (code crane bay : Nat) : kindOf code crane bay =
    if code ≤ 3 ∧ (code = 2 → 1 ≤ crane ∧ crane ≤ 15 ∧ bay ≤ 3) then
      some (if code = 0 then .lane else if code = 1 then .cross else if code = 2 then .bay crane bay else .park) else none := by
  match code with
  | 0 => simp [kindOf]
  | 1 => simp [kindOf]
  | 2 => simp [kindOf]
  | 3 => simp [kindOf]
  | n + 4 => simp [kindOf]

/-- The record a MAP SEGMENT writes (R2). -/
def segmentRecord (len cls kind a b : Nat) (conflicts : List Nat) (crane bay : Nat) : Segment :=
  { length := len, cls := cls, nodeA := a, nodeB := b, conflicts := conflicts,
    kind := if kind = 0 then .lane else if kind = 1 then .cross else if kind = 2 then .bay crane bay else .park }

/-- The write-time limits of a segment record (R9). -/
theorem segmentOf_eq (len cls kind a b : Nat) (conflicts : List Nat) (crane bay : Nat) (ok : Prop) [Decidable ok]
    (hok : ok ↔ (kind ≤ 3 ∧ (kind = 2 → 1 ≤ crane ∧ crane ≤ 15 ∧ bay ≤ 3)) ∧
      (len ≤ 65535 ∧ cls ≤ 7 ∧ a ≤ 1023 ∧ b ≤ 1023 ∧ conflicts.all (fun c => decide (c ≤ 1023)) = true)) :
    segmentOf len cls kind a b conflicts crane bay =
      if ok then some (segmentRecord len cls kind a b conflicts crane bay) else none := by
  simp only [segmentOf, kindOf_eq]
  by_cases hkind : kind ≤ 3 ∧ (kind = 2 → 1 ≤ crane ∧ crane ≤ 15 ∧ bay ≤ 3)
  · rw [if_pos hkind]
    have hsame : ok ↔ (len ≤ 65535 ∧ cls ≤ 7 ∧ a ≤ 1023 ∧ b ≤ 1023 ∧ conflicts.all (fun c => decide (c ≤ 1023)) = true) := by
      rw [hok]
      exact and_iff_right hkind
    simp only [hsame]
    rfl
  · rw [if_neg hkind, if_neg fun h => hkind (hok.mp h).1]

/-- A table with one slot written or emptied (R9). -/
theorem tableGet_write {α : Type} (k j : Nat) (v : α) (t : List (Nat × α)) (empty : Prop) [Decidable empty] :
    tableGet k (if empty then tableDrop k t else tablePut k v t) = (if empty then none else some v) ∧
    (j ≠ k → tableGet j (if empty then tableDrop k t else tablePut k v t) = tableGet j t) := by
  split
  · exact ⟨tableGet_drop_same k t, tableGet_drop_other k j t⟩
  · exact ⟨tableGet_put_same k v t, tableGet_put_other k j v t⟩

/-- Settles O16: past the window, outside the limits, or one slot written. -/
theorem mapSegmentWrite : Obligations.MapSegmentWrite := by
  intro s len cls kind a b c0 c1 c2 c3 crane bay hfree hst
  dsimp only
  rw [exec_config _ .mapSegment [len, cls, kind, a, b, c0, c1, c2, c3, crane, bay] s hfree hst rfl rfl, Cmd.run]
  have hsegment := segmentOf_eq len cls kind a b [c0, c1, c2, c3] crane bay
    (len ≤ 65535 ∧ cls ≤ 7 ∧ kind ≤ 3 ∧ a ≤ 1023 ∧ b ≤ 1023 ∧ c0 ≤ 1023 ∧ c1 ≤ 1023 ∧ c2 ≤ 1023 ∧ c3 ≤ 1023 ∧
      (kind = 2 → 1 ≤ crane ∧ crane ≤ 15 ∧ bay ≤ 3)) (by simp; tauto)
  refine ⟨fun h => ?_, fun h hok => ?_, fun h hok => ⟨s.map.writeSegment (segmentRecord len cls kind a b [c0, c1, c2, c3] crane bay),
    ?_, rfl, rfl, ?_, fun j hj => ?_, rfl⟩⟩
  · simp only [ownMapSegment, (Cursor.past_iff _).mpr h, if_true]
    rfl
  · simp only [ownMapSegment, Cursor.past_false _ h, Bool.false_eq_true, if_false, hsegment, if_neg hok]
    rfl
  · simp only [ownMapSegment, Cursor.past_false _ h, Bool.false_eq_true, if_false, hsegment, if_pos hok]
    rfl
  · exact (tableGet_write s.map.segCursor.counter 0 _ s.map.segments (len = 0)).1
  · exact (tableGet_write s.map.segCursor.counter j _ s.map.segments (len = 0)).2 hj

theorem Tag.writable_iff (t : Tag) : t.writable = true ↔ t.tagId ≤ 16777215 ∧ t.segment ≤ 1023 ∧ t.offset ≤ 65535 := by
  simp [Tag.writable, and_assoc]

theorem SlowWindow.writable_iff (w : SlowWindow) :
    w.writable = true ↔ w.segment ≤ 1023 ∧ w.start ≤ 65535 ∧ w.stop ≤ 65535 ∧ w.ceiling ≤ 1000 := by
  simp [SlowWindow.writable, and_assoc]

/-- TAG WRITE past its window, complete or broken (R9, R10). -/
theorem ownTagWrite_past (id : Nat) (rest : List Nat) (s : State) (h : s.map.tagCursor.last < s.map.tagCursor.counter) :
    ownTagWrite (id :: rest) s = (s.setMap { s.map with tagCursor := s.map.tagCursor.miss },
      some (writeReply (id :: rest) 3 .doneCut s.map.tagCursor.miss)) := by
  simp only [ownTagWrite, (Cursor.past_iff _).mpr h, if_true]

/-- TAG WRITE with a value outside its limit. -/
theorem ownTagWrite_refused (id : Nat) (rest : List Nat) (s : State) (h : s.map.tagCursor.counter ≤ s.map.tagCursor.last)
    (hok : ¬ (s.map.tagDraft id rest).writable = true) : ownTagWrite (id :: rest) s = s.refuse .refusedValue := by
  simp only [ownTagWrite, Cursor.past_false _ h, Bool.false_eq_true, if_false, hok]

/-- TAG WRITE of a slot. -/
theorem ownTagWrite_written (id : Nat) (rest : List Nat) (s : State) (h : s.map.tagCursor.counter ≤ s.map.tagCursor.last)
    (hok : (s.map.tagDraft id rest).writable = true) : ownTagWrite (id :: rest) s =
      (s.setMap (s.map.writeTag (s.map.tagDraft id rest)), some (writeReply (id :: rest) 3 .done s.map.tagCursor.advance)) := by
  simp only [ownTagWrite, Cursor.past_false _ h, Bool.false_eq_true, if_false, hok, if_true]

theorem ownWindowWrite_past (g : Nat) (rest : List Nat) (s : State) (h : s.map.winCursor.last < s.map.winCursor.counter) :
    ownWindowWrite (g :: rest) s = (s.setMap { s.map with winCursor := s.map.winCursor.miss },
      some (writeReply (g :: rest) 4 .doneCut s.map.winCursor.miss)) := by
  simp only [ownWindowWrite, (Cursor.past_iff _).mpr h, if_true]

theorem ownWindowWrite_refused (g : Nat) (rest : List Nat) (s : State) (h : s.map.winCursor.counter ≤ s.map.winCursor.last)
    (hok : ¬ (s.map.windowDraft g rest).writable = true) : ownWindowWrite (g :: rest) s = s.refuse .refusedValue := by
  simp only [ownWindowWrite, Cursor.past_false _ h, Bool.false_eq_true, if_false, hok]

theorem ownWindowWrite_written (g : Nat) (rest : List Nat) (s : State) (h : s.map.winCursor.counter ≤ s.map.winCursor.last)
    (hok : (s.map.windowDraft g rest).writable = true) : ownWindowWrite (g :: rest) s =
      (s.setMap (s.map.writeWindow (s.map.windowDraft g rest)),
       some (writeReply (g :: rest) 4 .done s.map.winCursor.advance)) := by
  simp only [ownWindowWrite, Cursor.past_false _ h, Bool.false_eq_true, if_false, hok, if_true]

/-- What a write of a tag slot leaves of the map (R9, R11). -/
theorem MapStore.writeTag_spec (m : MapStore) (t : Tag) :
    (m.writeTag t).isSealed = false ∧ (m.writeTag t).tagCursor = { m.tagCursor with counter := m.tagCursor.counter + 1 } ∧
    tableGet m.tagCursor.counter (m.writeTag t).tags = (if t.tagId = 0 then none else some t) ∧
    (∀ j, j ≠ m.tagCursor.counter → tableGet j (m.writeTag t).tags = tableGet j m.tags) ∧
    { m.writeTag t with tags := m.tags, tagCursor := m.tagCursor, isSealed := m.isSealed } = m :=
  ⟨rfl, rfl, (tableGet_write _ 0 t m.tags (t.tagId = 0)).1, fun j => (tableGet_write _ j t m.tags (t.tagId = 0)).2, rfl⟩

theorem MapStore.writeWindow_spec (m : MapStore) (w : SlowWindow) :
    (m.writeWindow w).isSealed = false ∧
    (m.writeWindow w).winCursor = { m.winCursor with counter := m.winCursor.counter + 1 } ∧
    tableGet m.winCursor.counter (m.writeWindow w).windows = (if w.segment = 1023 then none else some w) ∧
    (∀ j, j ≠ m.winCursor.counter → tableGet j (m.writeWindow w).windows = tableGet j m.windows) ∧
    { m.writeWindow w with windows := m.windows, winCursor := m.winCursor, isSealed := m.isSealed } = m :=
  ⟨rfl, rfl, (tableGet_write _ 0 w m.windows (w.segment = 1023)).1,
   fun j => (tableGet_write _ j w m.windows (w.segment = 1023)).2, rfl⟩

/-- Settles O17: the cases of a write on the two tables. -/
theorem tagAndWindowWrites : Obligations.TagAndWindowWrites := by
  intro s id seg off start stop w hfree hst
  dsimp only
  rw [exec_config (.tagWrite id seg off) .tagWrite [id, seg, off] s hfree hst rfl rfl,
    exec_config (.windowWrite seg start stop w) .windowWrite [seg, start, stop, w] s hfree hst rfl rfl]
  simp only [Cmd.run]
  refine ⟨fun h => ?_, fun h hok => ?_, fun h hok => ⟨s.map.writeTag ⟨id, seg, off⟩, ?_, s.map.writeTag_spec ⟨id, seg, off⟩⟩,
    fun h => ?_, fun h hok => ?_, fun h hok => ⟨s.map.writeWindow ⟨seg, start, stop, w⟩, ?_, s.map.writeWindow_spec ⟨seg, start, stop, w⟩⟩⟩
  · rw [ownTagWrite_past id _ s h]
    rfl
  · rw [ownTagWrite_refused id [seg, off] s h fun hw => hok ((Tag.writable_iff _).mp hw)]
    rfl
  · rw [ownTagWrite_written id [seg, off] s h ((Tag.writable_iff _).mpr hok)]
    rfl
  · rw [ownWindowWrite_past seg _ s h]
    rfl
  · rw [ownWindowWrite_refused seg [start, stop, w] s h fun hw => hok ((SlowWindow.writable_iff _).mp hw)]
    rfl
  · rw [ownWindowWrite_written seg [start, stop, w] s h ((SlowWindow.writable_iff _).mpr hok)]
    rfl

/-! ### The crane list (O18) -/

theorem cranesOk_iff (k : Nat) (ids : List Nat) :
    cranesOk k ids = true ↔ k ≤ 8 ∧ (∀ c ∈ ids, 1 ≤ c ∧ c ≤ 15) ∧ ids.Nodup := by
  simp [cranesOk, and_assoc]

theorem State.setCraneList_same (ids : List Nat) (s : State) (h : ids = s.map.cranes) : s.setCraneList ids = s := by
  rw [State.setCraneList, if_pos h]

/-- Another list arranges the Bay Table afresh, no bay on a segment (R6, R11, R120). -/
theorem State.setCraneList_changed (ids : List Nat) (s : State) (h : ids ≠ s.map.cranes) : s.setCraneList ids =
    { s with map := { s.map with cranes := ids, isSealed := false },
             bays := { s.bays with cranes := ids.map (fun c =>
               { id := c, heardAt := none, silent := false,
                 bays := List.replicate 4 { state := .unknown, source := .snoop, overrideOpen := false, segment := 1023 } }) } } := by
  rw [State.setCraneList, if_neg h]
  rfl

/-- Settles O18: the checks, and a list that is the same or another. -/
theorem craneListWrite : Obligations.CraneListWrite := by
  intro s k c0 c1 c2 c3 c4 c5 c6 c7 hfree hst
  dsimp only
  rw [exec_config (.craneList k c0 c1 c2 c3 c4 c5 c6 c7) .craneList [k, c0, c1, c2, c3, c4, c5, c6, c7] s hfree hst rfl rfl]
  have hrun : Cmd.craneList.run [k, c0, c1, c2, c3, c4, c5, c6, c7] s =
      if cranesOk k ([c0, c1, c2, c3, c4, c5, c6, c7].take k) = true
        then (s.setCraneList ([c0, c1, c2, c3, c4, c5, c6, c7].take k), some (Reply.plain .done))
        else s.refuse .refusedValue := rfl
  rw [hrun]
  generalize [c0, c1, c2, c3, c4, c5, c6, c7].take k = ids
  simp only [cranesOk_iff]
  refine ⟨fun hok => ?_, fun hok hsame => ?_, fun hok hother => ?_⟩
  · rw [if_neg hok]
    rfl
  · rw [if_pos hok, State.setCraneList_same ids s hsame]
    rfl
  · rw [if_pos hok, State.setCraneList_changed ids s hother]
    rfl

/-! ### Sealing and clearing (O19, O21) -/

theorem State.sealWalkEnd_refused (s : State) (f : SealFailure) (h : ({ s.map with sealing := false } : MapStore).sealFault = some f) :
    s.sealWalkEnd = (s.setMap { s.map with sealing := false }, f.reply) := by
  simp only [State.sealWalkEnd, h]

theorem State.sealWalkEnd_sealed (s : State) (h : ({ s.map with sealing := false } : MapStore).sealFault = none) :
    s.sealWalkEnd = ((s.setMap { s.map with sealing := false, isSealed := true }).setCranes
      (arrangeCranes s.map.baySegment s.map.cranes), s.map.sealedReply) := by
  simp only [State.sealWalkEnd, h]
  rfl

theorem exec_mapSealWalkEnd (s : State) (h : s.pins.resetHeld = false) : exec .mapSealWalkEnd s = .next s.walkEnd :=
  congrArg Host.Outcome.next (State.unlessHeld_running _ s h)

/-- Settles O19: at once, the shut port, and the walk's end. -/
theorem mapSealing : Obligations.MapSealing := by
  intro s
  refine ⟨fun hfree hst => ?_, fun hseal => ?_, fun hrun hseal => ?_, fun hrun hseal => ?_⟩
  · rw [exec_config .mapSeal .mapSeal [] s hfree hst rfl rfl]
    refine ⟨fun h => ?_, fun h => ?_⟩
    · simp only [Cmd.run, ownMapSeal, h, if_true]
      rfl
    · simp only [Cmd.run, ownMapSeal, h, Bool.false_eq_true, if_false, State.queueReply, Option.toList_none, List.append_nil]
      rfl
  · obtain ⟨h1, h2, h3, h4⟩ := exec_port_idle s fun k => State.atPort_shut k s (.inl hseal)
    exact ⟨h4, h1, h2, h3⟩
  · rw [exec_mapSealWalkEnd s hrun]
    simp only [State.walkEnd, hseal, Bool.false_eq_true, if_false]
  · rw [exec_mapSealWalkEnd s hrun]
    simp only [State.walkEnd, hseal, if_true]
    refine ⟨fun f hf => ?_, fun hf => ?_⟩
    · rw [State.sealWalkEnd_refused s f hf]
      rfl
    · rw [State.sealWalkEnd_sealed s hf]
      rfl

/-- Settles O21. -/
theorem mapClear : Obligations.MapClear := by
  intro s hfree
  refine ⟨fun hst => ?_, fun hst => ?_⟩
  · rw [exec_config .mapClear .mapClear [] s hfree hst rfl rfl]
    rfl
  · refine exec_refused .mapClear .mapClear [] s hfree rfl ?_
    exact Bool.eq_false_iff.mpr fun h => hst ((StationState.isConfig_iff _).mp h)

end Sys2Proof.Machine
end

section
/-! PROOFS. What each owner does with a broken command (R10, R39, R50, R125, R166): O11. -/

namespace Sys2Proof.Machine

/-! ### An answer made broken -/

/-- A complete command's answer as that of the command broken after n parameters: a refusal stands, another reply is
PARTIAL with the count before its data (R166, R180). -/
def Answer.asBroken (n : Nat) (r : Answer) : Answer :=
  (r.1, r.2.map (fun x => if x.status = .refusedValue ∨ x.status = .notHere then x
    else { status := .partialDone, data := pack 2 n ++ x.data }))

theorem asBroken_refused (n : Nat) (s : State) (st : Status) (h : st = .refusedValue ∨ st = .notHere) :
    Answer.asBroken n (s.refuse st) = s.refuse st := by
  simp only [Answer.asBroken, State.refuse, Option.map_some, Reply.plain, h, if_true]

theorem asBroken_taken (n : Nat) (s : State) (r : Reply) (h : ¬ (r.status = .refusedValue ∨ r.status = .notHere)) :
    Answer.asBroken n (s, some r) = (s, some (Reply.broken n r.data)) := by
  simp only [Answer.asBroken, Option.map_some, h, if_false]
  rfl

/-! ### Before the first parameter -/

theorem Cmd.run_empty (c : Cmd) (w : Nat) (s : State) (h : c.nextWidth [] = some w) (ht : c ≠ .tagWrite)
    (hw : c ≠ .windowWrite) : (c.run [] s).1 = s ∧ ∃ data, (c.run [] s).2 = some (Reply.broken 0 data) := by
  cases c
  case tagWrite => exact absurd rfl ht
  case windowWrite => exact absurd rfl hw
  case mapSeal | mapClear | start | leave | restart | routeClear | readStatus | readGuidance | readPosition | readRoute
    | readClaims | readBays | readEvents => exact nomatch h
  all_goals exact ⟨rfl, _, rfl⟩

theorem Cursor.emptyWrite_eq (c : Cursor) :
    c.emptyWrite = if c.last < c.counter then { c with disregard := min (c.disregard + 1) 65535 } else c := by
  simp only [Cursor.emptyWrite, Cursor.past, decide_eq_true_eq]
  rfl

/-! ### The owners' broken commands -/

theorem ownSetStation_broken (id : Nat) (s : State) : ownSetStation [id] s =
    if 1 ≤ id ∧ id ≤ 62 then ({ s with ctl := { s.ctl with id := id } }, some (Reply.broken 1 []))
    else s.refuse .refusedValue := by
  have hneg : (id < 1 ∨ 62 < id) ↔ ¬ (1 ≤ id ∧ id ≤ 62) := by omega
  simp only [ownSetStation, hneg, ite_not]
  rfl

theorem ownMapSegment_broken (vals : List Nat) (s : State) (h : vals.length < 11) :
    ownMapSegment vals s = (s, some (Reply.broken vals.length s.map.segCursor.data)) := by
  unfold ownMapSegment
  split
  · simp at h
  · rfl

/-- A window command broken after its first index (R8). -/
theorem windowCommand_broken (top a : Nat) (c : Cursor) : windowCommand top c [a] =
    if a ≤ top then (some (Cursor.aim a c.last), Reply.broken 1 []) else (none, Reply.plain .refusedValue) := by
  simp only [windowCommand, ← Nat.not_le, ite_not]

theorem writeReply_broken (vals : List Nat) (whole : Nat) (st : Status) (c : Cursor) (h : vals.length < whole) :
    writeReply vals whole st c = Reply.broken vals.length c.data := by
  rw [writeReply, if_pos h]

theorem ownCraneList_broken (k : Nat) (rest : List Nat) (s : State) (h : rest.length < 8) :
    ownCraneList (k :: rest) s =
      (if cranesOk k (rest.take k) then s.setCraneList (rest.take k) else s, some (Reply.broken (rest.length + 1) [])) := by
  simp only [ownCraneList, h, if_true, List.length_cons]

/-- SET POSITION with its three values or with former values for the missing ones (R39). -/
theorem ownSetPosition_eq (seg : Nat) (rest : List Nat) (off sg : Nat) (s : State) (hoff : rest.getD 0 s.pos.formerOffset = off)
    (hsg : rest.getD 1 s.pos.formerSign.code = sg) : ownSetPosition (seg :: rest) s =
      if s.map.present seg = true ∧ sg ≤ 1 then
        ((s.seed seg off (signOf sg)).guided (fun u => (claimEvent ownSeed true u).1),
         some (if rest.length < 2 then Reply.broken (rest.length + 1) []
           else Reply.plain (if s.map.lengthOf seg < off then .doneClamped else .done)))
      else s.refuse .refusedValue := by
  unfold ownSetPosition
  dsimp only
  rw [hoff, hsg]
  cases hp : s.map.present seg
  · simp
  · by_cases h1 : sg ≤ 1
    · simp [h1, Nat.not_lt.mpr h1]
    · simp [h1, Nat.lt_of_not_le h1]

theorem ownSetPosition_asBroken (seg : Nat) (rest : List Nat) (off sg : Nat) (s : State) (hrest : rest.length < 2)
    (hoff : rest.getD 0 s.pos.formerOffset = off) (hsg : rest.getD 1 s.pos.formerSign.code = sg) :
    ownSetPosition (seg :: rest) s = Answer.asBroken (rest.length + 1) (ownSetPosition [seg, off, sg] s) := by
  have hplain : ∀ c : Prop, [Decidable c] → ¬ ((if c then Status.doneClamped else .done) = .refusedValue ∨
      (if c then Status.doneClamped else .done) = .notHere) := fun c _ => by split <;> simp
  rw [ownSetPosition_eq seg rest off sg s hoff hsg, ownSetPosition_eq seg [off, sg] off sg s rfl rfl]
  split
  · have hlong : ¬ ([off, sg] : List Nat).length < 2 := Nat.lt_irrefl 2
    simp only [hlong, if_false]
    rw [asBroken_taken _ _ _ (hplain _)]
    rfl
  · rw [asBroken_refused _ _ _ (.inl rfl)]

/-- STILL CONTROL broken after its first switch acts with the second as it stands (R37). -/
theorem ownStillControl_asBroken (f : Nat) (s : State) :
    ownStillControl [f] s = Answer.asBroken 1 (ownStillControl [f, if s.pos.detect then 1 else 0] s) := by
  have hdetect : ((if s.pos.detect then 1 else 0) == 1) = s.pos.detect := by cases s.pos.detect <;> rfl
  have hsmall : ¬ 1 < (if s.pos.detect then 1 else 0) := by split <;> decide
  by_cases h : 1 < f
  · simp only [ownStillControl, h, true_or, if_true]
    rw [asBroken_refused _ _ _ (.inl rfl)]
  · simp only [ownStillControl, h, hsmall, or_self, if_false, hdetect]
    rw [asBroken_taken _ _ _ (by simp [Reply.plain])]
    rfl

/-- A missing override parameter keeps the override, as the value 2 does (R125). -/
theorem setOverrides_padded (crane n : Nat) (ov : List Nat) (t : BayTable) :
    t.setOverrides crane (ov ++ List.replicate n 2) = t.setOverrides crane ov := by
  have hsame : (fun (i : Nat) (b : Bay) => b.withOverride (ov ++ List.replicate n 2)[i]?) =
      fun i b => b.withOverride ov[i]? := by
    funext i b
    rw [List.getElem?_append]
    split
    · rfl
    · rename_i hi
      rw [List.getElem?_replicate, List.getElem?_eq_none (Nat.not_lt.mp hi)]
      split <;> rfl
  rw [BayTable.setOverrides, hsame]
  rfl

/-- BAY CONTROL acts by its switch, its crane and the overrides received (R125). -/
theorem ownBayControl_eq (snoop crane : Nat) (rest ov : List Nat) (s : State) (hc : rest.getD 0 0 = crane)
    (hov : rest.drop 1 = ov) : ownBayControl (snoop :: rest) s =
      if s.bayValuesOk snoop crane ov = true then
        (s.bayEvent ((s.bays.setOverrides crane ov).setSnoop crane (snoop == 1)),
         some (if rest.length + 1 < 6 then Reply.broken (rest.length + 1) [] else Reply.plain .done))
      else s.refuse .refusedValue := by
  subst hc hov
  rfl

theorem ownBayControl_asBroken (snoop crane : Nat) (rest ov : List Nat) (s : State) (hc : rest.getD 0 0 = crane)
    (hov : rest.drop 1 = ov) (hlen : rest.length < 5) (hov4 : ov.length ≤ 4) : ownBayControl (snoop :: rest) s =
      Answer.asBroken (rest.length + 1) (ownBayControl (snoop :: crane :: (ov ++ List.replicate (4 - ov.length) 2)) s) := by
  have hvalues : s.bayValuesOk snoop crane (ov ++ List.replicate (4 - ov.length) 2) = s.bayValuesOk snoop crane ov := by
    simp [State.bayValuesOk]
  have hlong : ¬ (crane :: (ov ++ List.replicate (4 - ov.length) 2)).length + 1 < 6 := by
    simp only [List.length_cons, List.length_append, List.length_replicate]
    omega
  rw [ownBayControl_eq snoop crane rest ov s hc hov,
    ownBayControl_eq snoop crane (crane :: (ov ++ List.replicate (4 - ov.length) 2)) (ov ++ List.replicate (4 - ov.length) 2) s rfl
      rfl, hvalues, setOverrides_padded, if_neg hlong]
  split
  · rw [if_pos (by omega), asBroken_taken _ _ _ (by simp [Reply.plain])]
    rfl
  · rw [asBroken_refused _ _ _ (.inl rfl)]

/-! ### ROUTE (R44, R50) -/

/-- ROUTE by the parameters read. -/
theorem ownRoute_eq (mode : Nat) (rest : List Nat) (s : State) (p : RouteParams) (hp : readRoute mode rest = p) :
    ownRoute (mode :: rest) s =
      if p.valuesOk = false then s.refuse .refusedValue
      else if p.ids = [] then s.routeWithoutIds p (rest.length + 1)
      else match s.planRoute p with
        | .error st => s.refuse st
        | .ok plan => s.writeRoute p plan (rest.length + 1) := by
  subst hp
  unfold ownRoute
  dsimp only
  cases (readRoute mode rest).valuesOk
  · rfl
  · cases (readRoute mode rest).ids <;> rfl

/-- A refused anchor test of ROUTE is REFUSED_VALUE or NOT_HERE (R44, R45, R46, R47). -/
theorem State.planRoute_error (s : State) (p : RouteParams) (st : Status) (h : s.planRoute p = .error st) :
    st = .refusedValue ∨ st = .notHere := by
  have hwhole : ∀ sign, s.planWhole sign p.ids = .error st → st = .refusedValue ∨ st = .notHere := by
    intro sign h
    unfold State.planWhole at h
    split at h
    · split at h
      · exact nomatch h
      · exact .inl (Except.error.inj h).symm
    · exact .inl (Except.error.inj h).symm
  unfold State.planRoute at h
  split at h
  · split at h
    · exact hwhole _ h
    · exact hwhole _ h
    · unfold State.planAnchored at h
      split at h
      · split at h
        · exact nomatch h
        · exact .inr (Except.error.inj h).symm
      · exact .inr (Except.error.inj h).symm
  · unfold State.planAppend at h
    split at h
    · exact nomatch h
    · exact .inr (Except.error.inj h).symm

/-- A ROUTE broken before its stop offset writes what the complete one without a stop writes (R50). -/
theorem writeRoute_asBroken (s : State) (p q : RouteParams) (plan : RoutePlan) (n m : Nat) (hp : p.stopOffset = none)
    (hq : q.stopPresent = some 0) (hq' : q.stopOffset = some 0) :
    s.writeRoute p plan n = Answer.asBroken n (s.writeRoute q plan m) := by
  have hstop : ∀ t last, s.routeStop p t last = (none, false) := fun t last => by
    unfold State.routeStop
    split
    · rename_i h
      exact nomatch hp.symm.trans h
    · rfl
  have hstop' : ∀ t last, s.routeStop q t last = (none, false) := fun t last => by
    unfold State.routeStop
    split
    · rename_i h _
      exact nomatch hq.symm.trans h
    · rfl
  have hstatus : ∀ c : Bool, ¬ ((if c then Status.doneCut else if false then .doneClamped else .done) = .refusedValue ∨
      (if c then Status.doneCut else if false then .doneClamped else .done) = .notHere) := fun c => by cases c <;> simp
  simp only [State.writeRoute, hstop, hstop', hp, hq', Option.isNone_none, Option.isNone_some, if_true, Bool.false_eq_true,
    if_false]
  rw [asBroken_taken _ _ _ (by cases Option.isSome _ <;> simp)]

/-- ROUTE with ids, broken before its stop offset: as the complete one without a stop (R50). -/
theorem ownRoute_asBroken (mode : Nat) (rest full : List Nat) (s : State) (p q : RouteParams)
    (hp : readRoute mode rest = p) (hq : readRoute mode full = q) (hv : p.valuesOk = q.valuesOk) (hids : p.ids = q.ids)
    (hne : p.ids ≠ []) (hplan : s.planRoute p = s.planRoute q) (hstop : p.stopOffset = none) (hq1 : q.stopPresent = some 0)
    (hq2 : q.stopOffset = some 0) :
    ownRoute (mode :: rest) s = Answer.asBroken (rest.length + 1) (ownRoute (mode :: full) s) := by
  rw [ownRoute_eq mode rest s p hp, ownRoute_eq mode full s q hq, hv]
  simp only [hne, hids ▸ hne, if_false, hplan]
  split
  · rw [asBroken_refused _ _ _ (.inl rfl)]
  · split
    · rename_i st hst
      rw [asBroken_refused _ _ _ (s.planRoute_error q st hst)]
    · exact writeRoute_asBroken s p q _ _ _ hstop hq1 hq2

/-- ROUTE's parameters from its count on, where the ids received are those counted or fewer with nothing after (R44). -/
theorem readRoute_ids (mode sign n : Nat) (ids more : List Nat) (h : (ids.length ≤ n ∧ more = []) ∨ ids.length = n) :
    readRoute 0 (sign :: n :: (ids ++ more)) =
      { mode := 0, sign := some sign, count := some n, ids := ids, stopPresent := more[0]?, stopOffset := more[1]? } ∧
    (mode ≠ 0 → readRoute mode (n :: (ids ++ more)) =
      { mode := mode, sign := none, count := some n, ids := ids, stopPresent := more[0]?, stopOffset := more[1]? }) := by
  have htake : (ids ++ more).take n = ids := by
    rcases h with ⟨hle, rfl⟩ | rfl
    · rw [List.append_nil, List.take_of_length_le hle]
    · exact List.take_left
  have hdrop : (ids ++ more).drop n = more := by
    rcases h with ⟨hle, rfl⟩ | rfl
    · rw [List.append_nil, List.drop_eq_nil_of_le hle]
    · exact List.drop_left
  refine ⟨?_, fun hm => ?_⟩
  · simp [readRoute, htake, hdrop]
  · simp [readRoute, hm, htake, hdrop]

theorem routeData_none : routeData 0 none = [0#8, 0#8, 0#8] := by decide

/-- ROUTE broken before its first id (R44, R50). -/
theorem ownRoute_short (mode : Nat) (rest : List Nat) (s : State) (hv : (readRoute mode rest).valuesOk = true)
    (hids : (readRoute mode rest).ids = []) : ownRoute (mode :: rest) s =
      if mode ≠ 0 ∧ s.route.entries = [] then s.refuse .notHere
      else (s, some (Reply.broken (rest.length + 1) [0#8, 0#8, 0#8])) := by
  rw [ownRoute_eq mode rest s _ rfl, hv, hids, if_neg (by simp), if_pos rfl, State.routeWithoutIds, routeData_none]
  rfl

/-- Settles O11: owner by owner, each broken command against its rule or the complete command it acts as. -/
theorem brokenCommands : Obligations.BrokenCommands := by
  intro s
  refine ⟨fun c w h ht hw => Cmd.run_empty c w s h ht hw, ⟨?_, ?_⟩, fun id => ownSetStation_broken id s, fun i => ⟨fun v h => ?_, fun h => ?_⟩,
    fun vals h => ownMapSegment_broken vals s h, fun a => ⟨?_, ?_⟩, fun id rest hrest => ⟨fun h => ?_, fun h hok => ?_, fun h hok => ?_⟩,
    fun g rest hrest => ⟨fun h => ?_, fun h hok => ?_, fun h hok => ?_⟩, fun k rest hrest => ⟨fun h => ?_, fun hok hne => ?_⟩,
    fun seg off => ⟨?_, ?_⟩, fun sign n hsign hn => ⟨fun vals hvals => ?_, fun vals hvals => ?_, fun ids more hids hmore => ⟨?_, ?_⟩⟩,
    fun f => ownStillControl_asBroken f s, fun snoop => ⟨?_, fun crane ov hov => ?_⟩⟩
  · rw [Cmd.run, ownTagWrite, Cursor.emptyWrite_eq]
    rfl
  · rw [Cmd.run, ownWindowWrite, Cursor.emptyWrite_eq]
    rfl
  · simp only [Cmd.run, ownSetTuning, h]
    by_cases hi : i < 128
    · rfl
    · rfl
  · simp only [Cmd.run, ownSetTuning, h]
    rfl
  · simp only [Cmd.run, ownMapWindow, windowCommand_broken]
    by_cases ha : a ≤ 1022
    · simp only [ha, if_true]
      rfl
    · simp only [ha, if_false]
      rfl
  · simp only [Cmd.run, ownTagWindow, windowCommand_broken]
    by_cases ha : a ≤ 511
    · simp only [ha, if_true]
      rfl
    · simp only [ha, if_false]
      rfl
  · rw [Cmd.run, ownTagWrite_past id rest s h, writeReply_broken (id :: rest) 3 _ _ (by simp; omega)]
    rfl
  · exact ownTagWrite_refused id rest s h fun hw => hok ((Tag.writable_iff _).mp hw)
  · refine ⟨s.map.writeTag (s.map.tagDraft id rest), ?_, s.map.writeTag_spec _⟩
    rw [Cmd.run, ownTagWrite_written id rest s h ((Tag.writable_iff _).mpr hok),
      writeReply_broken (id :: rest) 3 _ _ (by simp; omega)]
    rfl
  · rw [Cmd.run, ownWindowWrite_past g rest s h, writeReply_broken (g :: rest) 4 _ _ (by simp; omega)]
    rfl
  · exact ownWindowWrite_refused g rest s h fun hw => hok ((SlowWindow.writable_iff _).mp hw)
  · refine ⟨s.map.writeWindow (s.map.windowDraft g rest), ?_, s.map.writeWindow_spec _⟩
    rw [Cmd.run, ownWindowWrite_written g rest s h ((SlowWindow.writable_iff _).mpr hok),
      writeReply_broken (g :: rest) 4 _ _ (by simp; omega)]
    rfl
  · rw [Cmd.run, ownCraneList_broken k rest s hrest]
    by_cases hok : cranesOk k (rest.take k) = true
    · have hsame : rest.take k = s.map.cranes := h.resolve_left fun hn => hn ((cranesOk_iff _ _).mp hok)
      rw [if_pos hok, State.setCraneList_same _ s hsame]
      rfl
    · rw [if_neg hok]
      rfl
  · rw [Cmd.run, ownCraneList_broken k rest s hrest, if_pos ((cranesOk_iff _ _).mpr hok), State.setCraneList_changed _ s hne]
    rfl
  · exact ownSetPosition_asBroken seg [off] off _ s Nat.one_lt_two rfl rfl
  · exact ownSetPosition_asBroken seg [] _ _ s (by decide) rfl rfl
  · have hshort : ∀ rest, (readRoute 0 rest).valuesOk = true → (readRoute 0 rest).ids = [] →
        ownRoute (0 :: rest) s = (s, some (Reply.broken (rest.length + 1) [0#8, 0#8, 0#8])) := fun rest hv hi => by
      rw [ownRoute_short 0 rest s hv hi, if_neg (by simp)]
    simp only [List.mem_cons, List.not_mem_nil, or_false] at hvals
    obtain rfl | rfl | rfl := hvals
    · exact hshort [] rfl rfl
    · exact hshort [sign] (by simp [readRoute, RouteParams.valuesOk, hsign]) rfl
    · exact hshort [sign, n] (by simp [readRoute, RouteParams.valuesOk, hsign, hn]) (by simp [readRoute])
  · have hshort : ∀ rest, (readRoute 1 rest).valuesOk = true → (readRoute 1 rest).ids = [] → ownRoute (1 :: rest) s =
        if s.route.entries = [] then s.refuse .notHere else (s, some (Reply.broken (rest.length + 1) [0#8, 0#8, 0#8])) :=
      fun rest hv hi => by simp only [ownRoute_short 1 rest s hv hi, ne_eq, one_ne_zero, not_false_eq_true, true_and]
    simp only [List.mem_cons, List.not_mem_nil, or_false] at hvals
    obtain rfl | rfl := hvals
    · exact hshort [] rfl rfl
    · exact hshort [n] (by simp [readRoute, RouteParams.valuesOk, hn]) (by simp [readRoute])
  · have hn' : ids.length ≠ 0 := fun h => hids (List.length_eq_zero_iff.mp h)
    have hsp : more[0]?.getD 0 ≤ 1 ∧ more[1]? = none := by
      rcases hmore with ⟨-, rfl⟩ | ⟨-, sp, hsp, rfl⟩
      · exact ⟨Nat.zero_le _, rfl⟩
      · exact ⟨hsp, rfl⟩
    have hcount : (ids.length ≤ n ∧ more = []) ∨ ids.length = n := hmore.imp_right And.left
    have := ownRoute_asBroken 0 (sign :: n :: (ids ++ more)) (sign :: ids.length :: (ids ++ [0, 0])) s _ _
      (readRoute_ids 0 sign n ids more hcount).1 (readRoute_ids 0 sign ids.length ids [0, 0] (.inr rfl)).1
      (by simp [RouteParams.valuesOk, hn, hn', hsp.1]) rfl hids rfl hsp.2 rfl rfl
    rwa [show (sign :: n :: (ids ++ more)).length + 1 = 3 + ids.length + more.length by simp; omega] at this
  · have hn' : ids.length ≠ 0 := fun h => hids (List.length_eq_zero_iff.mp h)
    have hsp : more[0]?.getD 0 ≤ 1 ∧ more[1]? = none := by
      rcases hmore with ⟨-, rfl⟩ | ⟨-, sp, hsp, rfl⟩
      · exact ⟨Nat.zero_le _, rfl⟩
      · exact ⟨hsp, rfl⟩
    have hcount : (ids.length ≤ n ∧ more = []) ∨ ids.length = n := hmore.imp_right And.left
    have := ownRoute_asBroken 1 (n :: (ids ++ more)) (ids.length :: (ids ++ [0, 0])) s _ _
      ((readRoute_ids 1 sign n ids more hcount).2 (by decide)) ((readRoute_ids 1 sign ids.length ids [0, 0] (.inr rfl)).2 (by decide))
      (by simp [RouteParams.valuesOk, hn, hn', hsp.1]) rfl hids rfl hsp.2 rfl rfl
    rwa [show (n :: (ids ++ more)).length + 1 = 2 + ids.length + more.length by simp; omega] at this
  · exact ownBayControl_asBroken snoop 0 [] [] s rfl rfl (by decide) (by decide)
  · have := ownBayControl_asBroken snoop crane (crane :: ov) ov s rfl rfl (by simp; omega) (by omega)
    exact this

end Sys2Proof.Machine
end

section
/-! PROOFS. The lookups of the Map Store and the checks of MAP SEAL (1.4, 1.5; O20). -/

namespace Sys2Proof.Machine

/-! ### Slot tables, sorted by slot -/

section Table
variable {α : Type}

/-- A slot that answers is one of the table's. -/
theorem mem_of_tableGet {k : Nat} {v : α} {t : List (Nat × α)} (h : tableGet k t = some v) : (k, v) ∈ t := by
  induction t with
  | nil => exact nomatch h
  | cons p rest ih =>
    obtain ⟨j, w⟩ := p
    unfold tableGet at h
    split at h
    · rename_i hj
      subst hj
      rw [Option.some.inj h]
      exact List.mem_cons_self
    · exact List.mem_cons_of_mem _ (ih h)

theorem tableFrom_cons {lo : Nat} {p : Nat × α} {rest : List (Nat × α)} (h : tableFrom lo (p :: rest) = true) :
    lo ≤ p.1 ∧ tableFrom (p.1 + 1) rest = true := by
  obtain ⟨j, w⟩ := p
  simpa [tableFrom] using h

theorem tableFrom_le {lo : Nat} {t : List (Nat × α)} (h : tableFrom lo t = true) : ∀ p ∈ t, lo ≤ p.1 := by
  induction t generalizing lo with
  | nil => exact nofun
  | cons p rest ih =>
    obtain ⟨hp, hrest⟩ := tableFrom_cons h
    exact List.forall_mem_cons.mpr ⟨hp, fun q hq => by have := ih hrest q hq; omega⟩

/-- The slots of a table in canonical form rise strictly. -/
theorem tableFrom_sorted {lo : Nat} {t : List (Nat × α)} (h : tableFrom lo t = true) : t.Pairwise (fun p q => p.1 < q.1) := by
  induction t generalizing lo with
  | nil => exact .nil
  | cons p rest ih =>
    obtain ⟨-, hrest⟩ := tableFrom_cons h
    exact List.pairwise_cons.mpr ⟨fun q hq => tableFrom_le hrest q hq, ih hrest⟩

theorem tableWf_sorted {t : List (Nat × α)} (h : tableWf t = true) : t.Pairwise (fun p q => p.1 < q.1) := tableFrom_sorted h

/-- In a sorted table a slot answers exactly what it holds. -/
theorem tableGet_eq_some_iff {k : Nat} {v : α} {t : List (Nat × α)} (h : t.Pairwise (fun p q => p.1 < q.1)) :
    tableGet k t = some v ↔ (k, v) ∈ t := by
  refine ⟨mem_of_tableGet, fun hmem => ?_⟩
  induction t with
  | nil => exact nomatch hmem
  | cons p rest ih =>
    obtain ⟨j, w⟩ := p
    obtain ⟨hlt, hrest⟩ := List.pairwise_cons.mp h
    unfold tableGet
    obtain heq | hmem := List.mem_cons.mp hmem
    · cases heq
      exact if_pos rfl
    · rw [if_neg (hlt _ hmem).ne]
      exact ih hrest hmem

end Table

/-! ### The lookups (R2 to R5, R7, R120) -/

theorem MapStore.segment_eq_some_iff (m : MapStore) (w : Nat) (g : Segment) (h : tableWf m.segments = true) :
    m.segment w = some g ↔ w < 1023 ∧ (w, g) ∈ m.segments := by
  unfold MapStore.segment
  split
  · rename_i hw
    rw [tableGet_eq_some_iff (tableWf_sorted h)]
    exact (and_iff_right hw).symm
  · rename_i hw
    exact ⟨nofun, fun h => absurd h.1 hw⟩

theorem MapStore.segment_mem (m : MapStore) (w : Nat) (g : Segment) (h : m.segment w = some g) : w ∈ m.segments.map Prod.fst := by
  unfold MapStore.segment at h
  split at h
  · exact List.mem_map.mpr ⟨(w, g), mem_of_tableGet h, rfl⟩
  · exact nomatch h

theorem MapStore.present_iff (m : MapStore) (w : Nat) : m.present w = true ↔ ∃ g, m.segment w = some g :=
  Option.isSome_iff_exists

theorem MapStore.present_false_iff (m : MapStore) (w : Nat) : m.present w = false ↔ m.segment w = none := by
  simp [MapStore.present]

theorem MapStore.lengthOf_of_segment (m : MapStore) (w : Nat) (g : Segment) (h : m.segment w = some g) :
    m.lengthOf w = g.length := by
  simp only [MapStore.lengthOf, h]

theorem MapStore.adjacency_none (m : MapStore) (v w : Nat) (h : v = w ∨ m.present v = false ∨ m.present w = false) :
    m.adjacency v w = .none := by
  unfold MapStore.adjacency
  split
  · rfl
  · rename_i hne
    split
    · rename_i ga gb hga hgb
      rcases h with h | h | h
      · exact absurd h hne
      · rw [MapStore.present_false_iff, hga] at h
        exact nomatch h
      · rw [MapStore.present_false_iff, hgb] at h
        exact nomatch h
    · rfl

/-- Two present segments that are not one: which nodes of the second are nodes of the first (R3). -/
theorem MapStore.adjacency_nodes (m : MapStore) (v w : Nat) (a b : Segment) (hne : v ≠ w) (ha : m.segment v = some a)
    (hb : m.segment w = some b) : m.adjacency v w =
      if (b.nodeA = a.nodeA ∨ b.nodeA = a.nodeB) ∧ (b.nodeB = a.nodeA ∨ b.nodeB = a.nodeB) then .both
      else if b.nodeA = a.nodeA ∨ b.nodeA = a.nodeB then .nodeA
      else if b.nodeB = a.nodeA ∨ b.nodeB = a.nodeB then .nodeB else .none := by
  simp only [MapStore.adjacency, if_neg hne, ha, hb, Bool.and_eq_true, Bool.or_eq_true, beq_iff_eq]

theorem MapStore.inConflict_iff (m : MapStore) (w v : Nat) : m.inConflict w v = true ↔
    ∃ a b, m.segment v = some a ∧ m.segment w = some b ∧ (w ∈ a.conflicts ∨ v ∈ b.conflicts) := by
  unfold MapStore.inConflict
  split
  · rename_i gw gv hw hv
    simp [hw, hv, or_comm]
  · rename_i hnot
    constructor
    · exact nofun
    · rintro ⟨a, b, ha, hb, -⟩
      exact absurd ha (hnot b a hb)

theorem MapStore.mem_conflictSet (m : MapStore) (v w : Nat) : v ∈ m.conflictSet w ↔
    v = w ∨ ∃ a b, m.segment v = some a ∧ m.segment w = some b ∧ (w ∈ a.conflicts ∨ v ∈ b.conflicts) := by
  rw [MapStore.conflictSet, List.mem_cons, List.mem_filter, Bool.and_eq_true, MapStore.inConflict_iff, bne_iff_ne]
  constructor
  · rintro (h | ⟨-, -, h⟩)
    · exact .inl h
    · exact .inr h
  · rintro (h | ⟨a, b, ha, hb, hc⟩)
    · exact .inl h
    · by_cases heq : v = w
      · exact .inl heq
      · exact .inr ⟨m.segment_mem v a ha, heq, a, b, ha, hb, hc⟩

theorem MapStore.conflictSet_nodup (m : MapStore) (w : Nat) (h : tableWf m.segments = true) : (m.conflictSet w).Nodup := by
  refine List.nodup_cons.mpr ⟨by simp, List.Nodup.filter _ ?_⟩
  exact List.pairwise_map.mpr ((tableWf_sorted h).imp fun hlt => hlt.ne)

theorem MapStore.windowsOn_eq (m : MapStore) (w : Nat) :
    m.windowsOn w = (m.windows.filter (fun p => decide (p.2.segment = w))).map (fun p => p.2) := by
  rw [MapStore.windowsOn, List.filter_map]
  rfl

theorem MapStore.tag_some (m : MapStore) (id : Nat) (t : Tag) (h : m.tag id = some t) :
    t.tagId = id ∧ ∃ slot, (slot, t) ∈ m.tags := by
  obtain ⟨⟨slot, u⟩, hmem, rfl⟩ := List.mem_map.mp (List.mem_of_find?_eq_some h)
  exact ⟨by simpa using List.find?_some h, slot, hmem⟩

theorem MapStore.tag_none_iff (m : MapStore) (id : Nat) : m.tag id = none ↔ ∀ p ∈ m.tags, p.2.tagId ≠ id := by
  simp [MapStore.tag, List.find?_eq_none]

/-- A crane's bay has the BAY segment of lowest id that names it (R120; log 26). -/
theorem MapStore.baySegment_lowest (m : MapStore) (v w : Nat) (p : Nat × Segment) (hp : p ∈ m.segments)
    (hwf : tableWf m.segments = true) (hk : p.2.kind = .bay v w) (hlow : ∀ q ∈ m.segments, q.2.kind = .bay v w → p.1 ≤ q.1) :
    m.baySegment v w = p.1 := by
  unfold MapStore.baySegment
  split
  · rename_i q hq
    obtain ⟨hqk, pre, post, hlist, hpre⟩ := List.find?_eq_some_iff_append.mp hq
    have hqkind : q.2.kind = .bay v w := by simpa using hqk
    have hmem : p ∈ q :: post := by
      rw [hlist] at hp
      refine (List.mem_append.mp hp).resolve_left fun hin => ?_
      have := hpre p hin
      simp [hk] at this
    have hle : q.1 ≤ p.1 := by
      obtain rfl | hin := List.mem_cons.mp hmem
      · exact le_rfl
      · have hsorted := tableWf_sorted hwf
        rw [hlist, List.pairwise_append] at hsorted
        exact ((List.pairwise_cons.mp hsorted.2.1).1 p hin).le
    exact le_antisymm hle (hlow q (by rw [hlist]; simp) hqkind)
  · rename_i hnone
    have := List.find?_eq_none.mp hnone p hp
    simp [hk] at this

theorem MapStore.baySegment_none (m : MapStore) (v w : Nat) (h : ∀ p ∈ m.segments, p.2.kind ≠ .bay v w) :
    m.baySegment v w = 1023 := by
  unfold MapStore.baySegment
  split
  · rename_i q hq
    exact absurd (by simpa using List.find?_some hq) (h q (List.mem_of_find?_eq_some hq))
  · rfl

/-! ### The seal checks (R12, R13) -/

/-- A segment fails the check of a reason (R13). -/
def MapStore.segmentFails (m : MapStore) (p : Nat × Segment) (reason : Nat) : Prop :=
  (reason = 1 ∧ ¬ (500 ≤ p.2.length ∧ p.2.length ≤ 20000)) ∨ (reason = 2 ∧ p.2.nodeA = p.2.nodeB) ∨
  (reason = 3 ∧ ∃ c ∈ p.2.conflicts, c ≠ 1023 ∧ m.present c = false) ∨
  (reason = 4 ∧ ∃ crane bay, p.2.kind = .bay crane bay ∧ crane ∉ m.cranes) ∨
  (reason = 5 ∧ ∃ crane bay, p.2.kind = .bay crane bay ∧ ∃ q ∈ m.segments, q.1 < p.1 ∧ q.2.kind = .bay crane bay)

/-- A slow window fails the check of a reason. -/
def MapStore.windowFails (m : MapStore) (p : Nat × SlowWindow) (reason : Nat) : Prop :=
  (reason = 6 ∧ m.present p.2.segment = false) ∨
  (reason = 7 ∧ ¬ (p.2.start < p.2.stop ∧ p.2.stop ≤ m.lengthOf p.2.segment))

/-- A tag fails the check of a reason. -/
def MapStore.tagFails (m : MapStore) (p : Nat × Tag) (reason : Nat) : Prop :=
  (reason = 8 ∧ m.present p.2.segment = false) ∨ (reason = 9 ∧ m.lengthOf p.2.segment < p.2.offset) ∨
  (reason = 10 ∧ ∃ q ∈ m.tags, q.1 < p.1 ∧ q.2.tagId = p.2.tagId)

/-- The first failing check of a record is named, and a record without one passes. -/
def FirstFault (table record : Nat) (fails : Nat → Prop) (fault : Option SealFailure) : Prop :=
  (fault = none ∧ ∀ r, ¬ fails r) ∨
  ∃ r, fault = some { table := table, record := record, reason := r } ∧ fails r ∧ ∀ r' < r, ¬ fails r'

theorem FirstFault.none_iff {table record : Nat} {fails : Nat → Prop} {fault : Option SealFailure}
    (h : FirstFault table record fails fault) : fault = none ↔ ∀ r, ¬ fails r := by
  rcases h with ⟨h, hno⟩ | ⟨r, h, hr, -⟩
  · exact ⟨fun _ => hno, fun _ => h⟩
  · refine ⟨fun hn => ?_, fun hno => absurd hr (hno r)⟩
    rw [h] at hn
    exact nomatch hn

theorem FirstFault.first {table record : Nat} {fails : Nat → Prop} {fault : Option SealFailure}
    (h : FirstFault table record fails fault) {r : Nat} (hr : fails r) (hlow : ∀ r' < r, ¬ fails r') :
    fault = some { table := table, record := record, reason := r } := by
  rcases h with ⟨-, hno⟩ | ⟨r', h, hr', hlow'⟩
  · exact absurd hr (hno r)
  · rcases Nat.lt_trichotomy r r' with hlt | rfl | hgt
    · exact absurd hr (hlow' r hlt)
    · exact h
    · exact absurd hr' (hlow r' hgt)

theorem MapStore.bayRepeated_iff (m : MapStore) (id : Nat) (k : Kind) :
    m.bayRepeated id k = true ↔ ∃ q ∈ m.segments, q.1 < id ∧ q.2.kind = k := by
  simp [MapStore.bayRepeated]

theorem MapStore.segmentFault_first (m : MapStore) (p : Nat × Segment) :
    FirstFault 1 p.1 (m.segmentFails p) (m.segmentFault p) := by
  have hconf : p.2.conflicts.any (fun c => c != Config.noSegment && !m.present c) = true ↔
      ∃ c ∈ p.2.conflicts, c ≠ 1023 ∧ m.present c = false := by simp [Config.noSegment]
  unfold MapStore.segmentFault
  dsimp only
  split
  · rename_i h
    refine .inr ⟨1, rfl, .inl ⟨rfl, by omega⟩, fun r hr => ?_⟩
    simp only [MapStore.segmentFails]
    omega
  · rename_i h1
    split
    · rename_i h
      refine .inr ⟨2, rfl, .inr (.inl ⟨rfl, h⟩), fun r hr => ?_⟩
      simp only [MapStore.segmentFails]
      omega
    · rename_i h2
      split
      · rename_i h
        refine .inr ⟨3, rfl, .inr (.inr (.inl ⟨rfl, hconf.mp h⟩)), fun r hr => ?_⟩
        simp only [MapStore.segmentFails]
        omega
      · rename_i h3
        have hlow : ∀ r < 4, ¬ m.segmentFails p r := by
          intro r hr
          rintro (⟨rfl, h⟩ | ⟨rfl, h⟩ | ⟨rfl, h⟩ | ⟨rfl, -⟩ | ⟨rfl, -⟩)
          · omega
          · exact h2 h
          · exact h3 (hconf.mpr h)
          · omega
          · omega
        split
        · rename_i c b hk
          split
          · rename_i h
            exact .inr ⟨4, rfl, .inr (.inr (.inr (.inl ⟨rfl, c, b, hk, by simpa using h⟩))), hlow⟩
          · rename_i h4
            have hlow5 : ∀ r < 5, ¬ m.segmentFails p r := by
              intro r hr hf
              obtain rfl | hr := Nat.eq_or_lt_of_le (Nat.le_of_lt_succ hr)
              · obtain ⟨h, -⟩ | ⟨h, -⟩ | ⟨h, -⟩ | ⟨-, c', b', hk', hc'⟩ | ⟨h, -⟩ := hf
                · exact nomatch h
                · exact nomatch h
                · exact nomatch h
                · rw [hk] at hk'
                  cases hk'
                  exact h4 (by simpa using hc')
                · exact nomatch h
              · exact hlow r hr hf
            split
            · rename_i h
              refine .inr ⟨5, rfl, .inr (.inr (.inr (.inr ⟨rfl, c, b, hk, ?_⟩))), hlow5⟩
              rw [hk] at h
              exact (m.bayRepeated_iff _ _).mp h
            · rename_i h5
              refine .inl ⟨rfl, fun r hf => ?_⟩
              rcases Nat.lt_or_ge r 5 with hr | hr
              · exact hlow5 r hr hf
              · obtain ⟨rfl, -⟩ | ⟨rfl, -⟩ | ⟨rfl, -⟩ | ⟨rfl, -⟩ | ⟨-, c', b', hk', hq⟩ := hf
                · omega
                · omega
                · omega
                · omega
                · rw [← hk'] at hq
                  exact h5 ((m.bayRepeated_iff _ _).mpr hq)
        · rename_i hk
          refine .inl ⟨rfl, fun r hf => ?_⟩
          rcases Nat.lt_or_ge r 4 with hr | hr
          · exact hlow r hr hf
          · obtain ⟨rfl, -⟩ | ⟨rfl, -⟩ | ⟨rfl, -⟩ | ⟨-, c', b', hk', -⟩ | ⟨-, c', b', hk', -⟩ := hf
            · omega
            · omega
            · omega
            · exact hk c' b' hk'
            · exact hk c' b' hk'

theorem MapStore.windowFault_first (m : MapStore) (p : Nat × SlowWindow) :
    FirstFault 2 p.1 (m.windowFails p) (m.windowFault p) := by
  unfold MapStore.windowFault
  split
  · rename_i h
    refine .inr ⟨6, rfl, .inl ⟨rfl, by simpa using h⟩, fun r hr => ?_⟩
    rintro (⟨rfl, -⟩ | ⟨rfl, -⟩) <;> omega
  · rename_i h6
    have hlow : ∀ r, r ≠ 7 → ¬ m.windowFails p r := by
      rintro r hr (⟨-, h⟩ | ⟨rfl, -⟩)
      · exact h6 (by simpa using h)
      · exact hr rfl
    split
    · rename_i h
      exact .inr ⟨7, rfl, .inr ⟨rfl, by omega⟩, fun r hr => hlow r (by omega)⟩
    · rename_i h7
      refine .inl ⟨rfl, fun r hf => ?_⟩
      obtain ⟨-, h⟩ | ⟨-, h⟩ := hf
      · exact h6 (by simpa using h)
      · omega

theorem MapStore.tagFault_first (m : MapStore) (p : Nat × Tag) : FirstFault 3 p.1 (m.tagFails p) (m.tagFault p) := by
  have hrep : m.tags.any (fun q => decide (q.1 < p.1) && q.2.tagId == p.2.tagId) = true ↔
      ∃ q ∈ m.tags, q.1 < p.1 ∧ q.2.tagId = p.2.tagId := by simp
  unfold MapStore.tagFault
  split
  · rename_i h
    refine .inr ⟨8, rfl, .inl ⟨rfl, by simpa using h⟩, fun r hr => ?_⟩
    rintro (⟨rfl, -⟩ | ⟨rfl, -⟩ | ⟨rfl, -⟩) <;> omega
  · rename_i h8
    have h8' : m.present p.2.segment ≠ false := by simpa using h8
    split
    · rename_i h
      refine .inr ⟨9, rfl, .inr (.inl ⟨rfl, h⟩), fun r hr => ?_⟩
      rintro (⟨-, h⟩ | ⟨rfl, -⟩ | ⟨rfl, -⟩)
      · exact h8' h
      · omega
      · omega
    · rename_i h9
      split
      · rename_i h
        refine .inr ⟨10, rfl, .inr (.inr ⟨rfl, hrep.mp h⟩), fun r hr => ?_⟩
        rintro (⟨-, h⟩ | ⟨-, h⟩ | ⟨rfl, -⟩)
        · exact h8' h
        · exact h9 h
        · omega
      · rename_i h10
        refine .inl ⟨rfl, fun r hf => ?_⟩
        obtain ⟨-, h⟩ | ⟨-, h⟩ | ⟨-, h⟩ := hf
        · exact h8' h
        · exact h9 h
        · exact h10 (hrep.mpr h)

/-- Every segment is present and passes. -/
def MapStore.segmentsPass (m : MapStore) : Prop := m.segments ≠ [] ∧ ∀ p ∈ m.segments, ∀ r, ¬ m.segmentFails p r

theorem MapStore.segmentFaults_none (m : MapStore) :
    m.segments.findSome? m.segmentFault = none ↔ ∀ p ∈ m.segments, ∀ r, ¬ m.segmentFails p r := by
  simp only [List.findSome?_eq_none_iff, (m.segmentFault_first _).none_iff]

theorem MapStore.windowFaults_none (m : MapStore) :
    m.windows.findSome? m.windowFault = none ↔ ∀ p ∈ m.windows, ∀ r, ¬ m.windowFails p r := by
  simp only [List.findSome?_eq_none_iff, (m.windowFault_first _).none_iff]

theorem MapStore.tagFaults_none (m : MapStore) :
    m.tags.findSome? m.tagFault = none ↔ ∀ p ∈ m.tags, ∀ r, ¬ m.tagFails p r := by
  simp only [List.findSome?_eq_none_iff, (m.tagFault_first _).none_iff]

/-- The walk by its three tables. -/
theorem MapStore.sealFault_eq (m : MapStore) : m.sealFault =
    if m.segments = [] then some { table := 0, record := 1023, reason := 0 }
    else ((m.segments.findSome? m.segmentFault).or (m.windows.findSome? m.windowFault)).or (m.tags.findSome? m.tagFault) := by
  unfold MapStore.sealFault
  cases m.segments with
  | nil => rfl
  | cons p rest =>
    simp only [List.isEmpty_cons, Bool.false_eq_true, if_false, reduceCtorEq]
    cases List.findSome? m.segmentFault (p :: rest) with
    | some f => rfl
    | none => cases List.findSome? m.windowFault m.windows <;> rfl

/-- The first record that fails is named. -/
theorem findSome_first {α : Type} {table : Nat} {fault : Nat × α → Option SealFailure} {fails : Nat × α → Nat → Prop}
    (hfirst : ∀ p, FirstFault table p.1 (fails p) (fault p)) (l pre post : List (Nat × α)) (p : Nat × α) (r : Nat)
    (hl : l = pre ++ p :: post) (hpre : ∀ q ∈ pre, ∀ r, ¬ fails q r) (hr : fails p r) (hlow : ∀ r' < r, ¬ fails p r') :
    l.findSome? fault = some { table := table, record := p.1, reason := r } :=
  List.findSome?_eq_some_iff.mpr ⟨pre, p, post, hl, (hfirst p).first hr hlow, fun q hq => ((hfirst q).none_iff).mpr (hpre q hq)⟩

/-- Settles O20: lookup by lookup, then the walk as a search through the three tables. -/
theorem sealChecks : Obligations.SealChecks := by
  refine ⟨fun m v w => ⟨fun h g => m.segment_eq_some_iff w g h, m.present_iff w, fun g => m.lengthOf_of_segment w g,
    m.adjacency_none v w, fun a b hne ha hb => ?_, m.mem_conflictSet v w, m.conflictSet_nodup w, m.windowsOn_eq w,
    fun t => m.tag_some w t, m.tag_none_iff w, fun p hp hwf hk hlow => m.baySegment_lowest v w p hp hwf hk hlow,
    m.baySegment_none v w⟩, fun m => ?_⟩
  · rw [m.adjacency_nodes v w a b hne ha hb]
    exact ⟨fun h1 h2 => if_pos ⟨h1, h2⟩, fun h1 h2 => by rw [if_neg fun h => h2 h.2, if_pos h1],
      fun h1 h2 => by rw [if_neg fun h => h1 h.1, if_neg h1, if_pos h2],
      fun h1 h2 => by rw [if_neg fun h => h1 h.1, if_neg h1, if_neg h2]⟩
  · have hpass : m.segmentsPass → m.segments ≠ [] ∧ m.segments.findSome? m.segmentFault = none :=
      fun h => ⟨h.1, m.segmentFaults_none.mpr h.2⟩
    refine ⟨?_, fun h => ?_, fun pre p post r hl hpre hr hlow => ?_, fun hseg pre p post r hl hpre hr hlow => ?_,
      fun hwin pre p post r hl hpre hr hlow => ?_⟩
    · rw [m.sealFault_eq]
      by_cases hempty : m.segments = []
      · rw [if_pos hempty]
        exact ⟨nofun, fun h => absurd hempty h.1.1.1⟩
      · rw [if_neg hempty, Option.or_eq_none_iff, Option.or_eq_none_iff, m.segmentFaults_none, m.windowFaults_none,
          m.tagFaults_none]
        exact ⟨fun h => ⟨⟨⟨hempty, h.1.1⟩, h.1.2⟩, h.2⟩, fun h => ⟨⟨h.1.1.2, h.1.2⟩, h.2⟩⟩
    · rw [m.sealFault_eq, if_pos h]
    · rw [m.sealFault_eq, if_neg (by simp [hl]), findSome_first m.segmentFault_first _ pre post p r hl hpre hr hlow]
      rfl
    · obtain ⟨hne, hnone⟩ := hpass hseg
      rw [m.sealFault_eq, if_neg hne, hnone, findSome_first m.windowFault_first _ pre post p r hl hpre hr hlow]
      rfl
    · obtain ⟨hne, hnone⟩ := hpass hwin.1
      rw [m.sealFault_eq, if_neg hne, hnone, m.windowFaults_none.mpr hwin.2,
        findSome_first m.tagFault_first _ pre post p r hl hpre hr hlow]
      rfl

end Sys2Proof.Machine
end

section
/-! PROOFS. The ids a ROUTE takes (3.1, 3.2; O27), and the frames of the yard link (12.1; O49). -/

namespace Sys2Proof.Machine

/-! ### The ids of a ROUTE (3.2) -/

/-- The node by which an entry of this sign leaves its segment (R41). -/
def Segment.exitAt (g : Segment) : Sign → Nat
  | .plus => g.nodeB
  | .minus => g.nodeA

/-- The node by which an entry of this sign enters its segment (R41). -/
def Segment.entryAt (g : Segment) : Sign → Nat
  | .plus => g.nodeA
  | .minus => g.nodeB

/-- An entry continues the one before it: another segment, entered at the node the former is left by, at PLUS where
both its nodes are that one (R42). -/
def MapStore.Follows (m : MapStore) (a b : RouteEntry) : Prop :=
  ∃ ga gb, m.segment a.seg = some ga ∧ m.segment b.seg = some gb ∧ b.seg ≠ a.seg ∧
    ga.exitAt a.sign = gb.entryAt b.sign ∧ (b.sign = .minus → gb.nodeA ≠ gb.nodeB)

/-- A segment does not continue an entry: it is the entry's own, or has not the entry's exit node (R48). -/
def MapStore.Apart (m : MapStore) (a : RouteEntry) (x : Nat) : Prop :=
  x = a.seg ∨ ∀ ga gx, m.segment a.seg = some ga → m.segment x = some gx →
    gx.nodeA ≠ ga.exitAt a.sign ∧ gx.nodeB ≠ ga.exitAt a.sign

theorem MapStore.exitNode_eq (m : MapStore) (e : RouteEntry) :
    m.exitNode e = (m.segment e.seg).map (·.exitAt e.sign) := rfl

theorem MapStore.continues_some {m : MapStore} {a : RouteEntry} {x : Nat} {sg : Sign} (h : m.continues a x = some sg) :
    m.Follows a ⟨x, sg⟩ := by
  unfold MapStore.continues at h
  rw [m.exitNode_eq] at h
  split at h
  · simp at h
  next hother =>
    split at h
    next n gx hexit hx =>
      obtain ⟨ga, ha, rfl⟩ := Option.map_eq_some_iff.mp hexit
      refine ⟨ga, gx, ha, hx, hother, ?_⟩
      split at h
      next hA =>
        obtain rfl := Option.some.inj h
        exact ⟨hA.symm, nofun⟩
      next hA =>
        split at h
        next hB =>
          obtain rfl := Option.some.inj h
          exact ⟨hB.symm, fun _ hsame => hA (hsame.trans hB)⟩
        · simp at h
    · simp at h

theorem MapStore.continues_none_iff {m : MapStore} {a : RouteEntry} {x : Nat} :
    m.continues a x = none ↔ m.Apart a x := by
  unfold MapStore.continues MapStore.Apart
  rw [m.exitNode_eq]
  by_cases hown : x = a.seg
  · simp [hown]
  · cases m.segment a.seg <;> cases m.segment x <;> simp [hown, ite_eq_iff]

section
variable (m : MapStore) (room pos : Nat) (prev : RouteEntry) (ids : List Nat)

theorem takeIds_segs : (takeIds m room pos prev ids).entries.map (·.seg) =
    ids.take (takeIds m room pos prev ids).entries.length := by
  fun_induction takeIds m room pos prev ids with
  | case1 => rfl
  | case2 => rfl
  | case3 => rfl
  | case4 room pos prev id rest _ sg _ e t ih => simp [e, t, ih]
  | case5 => rfl

theorem takeIds_uncut (h : (takeIds m room pos prev ids).cut = none) :
    (takeIds m room pos prev ids).entries.length = ids.length := by
  fun_induction takeIds m room pos prev ids with
  | case1 => rfl
  | case2 => simp at h
  | case3 => simp at h
  | case4 room pos prev id rest _ sg _ e t ih => simpa using ih h
  | case5 => simp at h

theorem takeIds_follows : List.IsChain m.Follows (prev :: (takeIds m room pos prev ids).entries) := by
  fun_induction takeIds m room pos prev ids with
  | case1 => exact List.isChain_singleton _
  | case2 => exact List.isChain_singleton _
  | case3 => exact List.isChain_singleton _
  | case4 room pos prev id rest _ sg hsign e t ih =>
    exact List.isChain_cons_cons.mpr ⟨MapStore.continues_some hsign, ih⟩
  | case5 => exact List.isChain_singleton _

/-- Why a taking was cut at this id, after these entries: the first of the three tests that fails (R48). -/
def MapStore.CutFor (m : MapStore) (room taken : Nat) (last : RouteEntry) (x : Nat) : CutReason → Prop
  | .capacity => taken = room
  | .absent => taken < room ∧ m.present x = false
  | .notAdjacent => taken < room ∧ m.present x = true ∧ m.Apart last x

theorem takeIds_cut {r : CutReason} {p : Nat} (h : (takeIds m room pos prev ids).cut = some (r, p)) :
    let t := takeIds m room pos prev ids
    p = pos + t.entries.length ∧ ∃ x, ids[t.entries.length]? = some x ∧
      ∀ r', r = r' ↔ m.CutFor room t.entries.length (t.entries.getLast?.getD prev) x r' := by
  fun_induction takeIds m room pos prev ids with
  | case1 => simp at h
  | case2 prev pos id rest =>
    obtain ⟨rfl, rfl⟩ := Prod.mk.inj (Option.some.inj h)
    exact ⟨rfl, id, rfl, fun r' => by cases r' <;> simp [MapStore.CutFor]⟩
  | case3 room pos prev id rest hpresent hnone =>
    obtain ⟨rfl, rfl⟩ := Prod.mk.inj (Option.some.inj h)
    have hapart := MapStore.continues_none_iff.mp hnone
    exact ⟨rfl, id, rfl, fun r' => by cases r' <;> simp [MapStore.CutFor, hpresent, hapart]⟩
  | case4 room pos prev id rest _ sg _ e t ih =>
    obtain ⟨hp, x, hx, hwhy⟩ := ih h
    refine ⟨by simp [t, hp]; omega, x, by simpa using hx, fun r' => (hwhy r').trans ?_⟩
    cases r' <;> simp [MapStore.CutFor, List.getLast?_cons, t]
  | case5 room pos prev id rest habsent =>
    obtain ⟨rfl, rfl⟩ := Prod.mk.inj (Option.some.inj h)
    exact ⟨rfl, id, rfl, fun r' => by cases r' <;> simp [MapStore.CutFor, habsent]⟩

end

/-- Settles O27: the laws of a taking, by induction on the ids along its cases. -/
theorem routeIdsContinue : Obligations.RouteIdsContinue := by
  intro m room pos prev ids
  refine ⟨takeIds_length_le m room pos prev ids, takeIds_segs m room pos prev ids, takeIds_uncut m room pos prev ids, ?_, ?_⟩
  · intro k a b ha hb
    obtain ⟨ga, gb, hga, hgb, hother, hjoin, hminus⟩ : m.Follows a b := by
      obtain ⟨hk, rfl⟩ := List.getElem?_eq_some_iff.mp ha
      obtain ⟨hk', rfl⟩ := List.getElem?_eq_some_iff.mp hb
      exact List.isChain_iff_getElem.mp (takeIds_follows m room pos prev ids) k hk'
    refine ⟨ga, gb, hga, hgb, hother, ?_, hminus⟩
    cases ha' : a.sign <;> cases hb' : b.sign <;> rw [ha', hb'] at hjoin <;> exact hjoin
  · intro r p hcut
    obtain ⟨hp, x, hx, hwhy⟩ := takeIds_cut m room pos prev ids hcut
    exact ⟨hp, x, hx, hwhy .capacity, hwhy .absent, hwhy .notAdjacent⟩

/-! ### Frames of the yard link (12.1) -/

theorem framePasses_framed {bytes : List Byte} (h : bytes ≠ []) : framePasses (framed bytes) = true := by
  have hpos : 0 < bytes.length := List.length_pos_iff.mpr h
  have hlen : (framed bytes).length = bytes.length + 2 := by simp [framed, checkBytes]
  have htake : (framed bytes).take bytes.length = bytes := List.take_left ..
  have hdrop : (framed bytes).drop bytes.length = checkBytes (frameCheck bytes) := List.drop_left ..
  simp only [framePasses, hlen, Nat.add_sub_cancel, htake, hdrop, BEq.rfl, Bool.and_true, decide_eq_true_eq]
  omega

theorem word_two {v : Nat} (h : v < 65536) : word (BitVec.ofNat 8 (v / 256)) (BitVec.ofNat 8 v) = v := by
  simp only [word, BitVec.toNat_ofNat]; omega

theorem word10_two {v : Nat} (h : v < 1024) : word10 (BitVec.ofNat 8 (v / 256)) (BitVec.ofNat 8 v) = v := by
  rw [word10, word_two (by omega), Nat.mod_eq_of_lt h]

theorem readIds_two {ids : List Nat} (h : ∀ g ∈ ids, g < 1024) (rest : List Byte) :
    readIds (ids.flatMap two ++ rest) = ids ++ readIds rest := by
  induction ids with
  | nil => rfl
  | cons g ids ih =>
    rw [List.forall_mem_cons] at h
    simp [two, readIds, word10_two h.1, ih h.2]

section
variable {p : PositionNotice} (h : p.prec < 4)
include h

theorem PositionNotice.flagsByte_toNat : p.flagsByte.toNat =
    (if p.fresh then 1 else 0) + (if p.joining then 2 else 0) + (if p.still then 4 else 0) +
      (if p.laden then 8 else 0) + 16 * p.prec + 64 * p.sign.code := by
  have hsign : p.sign.code ≤ 1 := by cases p.sign <;> decide
  rw [flagsByte, BitVec.toNat_ofNat, Nat.mod_eq_of_lt h, Nat.mod_eq_of_lt]
  split <;> split <;> split <;> split <;> omega

theorem PositionNotice.flagsByte_prec : p.flagsByte.toNat / 16 % 4 = p.prec := by
  rw [flagsByte_toNat h]
  split <;> split <;> split <;> split <;> omega

theorem PositionNotice.flagsByte_bits : p.flagsByte.getLsbD 0 = p.fresh ∧ p.flagsByte.getLsbD 1 = p.joining ∧
    p.flagsByte.getLsbD 2 = p.still ∧ p.flagsByte.getLsbD 3 = p.laden ∧
    (if p.flagsByte.getLsbD 6 then Sign.minus else .plus) = p.sign := by
  have hsign : p.sign.code = if p.sign = .minus then 1 else 0 := by cases p.sign <;> rfl
  simp only [BitVec.getLsbD, Nat.testBit_eq_decide_div_mod_eq, flagsByte_toNat h, hsign]
  cases p.fresh <;> cases p.joining <;> cases p.still <;> cases p.laden <;> cases p.sign <;> simp <;> omega

end

theorem PositionNotice.length_framed (p : PositionNotice) :
    (framed (Notice.position p).bytes).length = 13 + 2 * (p.held.length + p.wanted.length) := by
  simp [framed, checkBytes, Notice.bytes, two]
  omega

theorem readNotice_position {p : PositionNotice} (hid : p.id < 256) (hsequence : p.sequence < 256) (hprec : p.prec < 4)
    (hsegment : p.segment < 1024) (hoffset : p.offset < 65536) (hspeed : p.speed < 65536) (hheld : p.held.length ≤ 8)
    (hwanted : p.wanted.length ≤ 4) (hids : ∀ g ∈ p.held ++ p.wanted, g < 1024) :
    readNotice (framed (Notice.position p).bytes) = some (.position p) := by
  have hlength := p.length_framed
  have hcount : (BitVec.ofNat 8 (16 * p.held.length + p.wanted.length)).toNat = 16 * p.held.length + p.wanted.length := by
    rw [BitVec.toNat_ofNat]; omega
  have hh : (16 * p.held.length + p.wanted.length) / 16 = p.held.length := by omega
  have hw : (16 * p.held.length + p.wanted.length) % 16 = p.wanted.length := by omega
  have hread := readIds_two hids (checkBytes (frameCheck (Notice.position p).bytes))
  obtain ⟨hfresh, hjoining, hstill, hladen, hsign⟩ := PositionNotice.flagsByte_bits hprec
  rw [framed, Notice.bytes] at hlength ⊢
  rw [Notice.bytes] at hread
  simp only [two, List.cons_append, List.nil_append, List.append_assoc] at hlength hread ⊢
  simp only [readNotice, hlength, hcount, hh, hw, hread, hheld, hwanted, PositionNotice.flagsByte_prec hprec, hfresh,
    hjoining, hstill, hladen, hsign, word10_two hsegment, word_two hoffset, word_two hspeed]
  simp [Nat.mod_eq_of_lt hid, Nat.mod_eq_of_lt hsequence]

theorem readNotice_leave {id q : Nat} (hid : id < 256) (hq : q < 256) :
    readNotice (framed (Notice.leave id q).bytes) = some (.leave id q) := by
  simp [framed, checkBytes, Notice.bytes, readNotice, Nat.mod_eq_of_lt hid, Nat.mod_eq_of_lt hq]

theorem readBayCode_code {b : BayState} (h : b ≠ .unknown) : readBayCode b.code = some b := by
  cases b with
  | unknown => exact absurd rfl h
  | _ => rfl

theorem readNotice_crane {id : Nat} {a b c d : BayState} (hid : id < 256) (ha : a ≠ .unknown) (hb : b ≠ .unknown)
    (hc : c ≠ .unknown) (hd : d ≠ .unknown) :
    readNotice (framed (Notice.crane id [a, b, c, d]).bytes) = some (.crane id [a, b, c, d]) := by
  have hcode (e : BayState) : e.code < 4 := by cases e <;> decide
  have ha' := hcode a
  have hb' := hcode b
  have hc' := hcode c
  have hd' := hcode d
  have hbyte : (BitVec.ofNat 8 (a.code + 4 * (b.code + 4 * (c.code + 4 * d.code)))).toNat =
      a.code + 4 * (b.code + 4 * (c.code + 4 * d.code)) := by
    rw [BitVec.toNat_ofNat]; omega
  have ea : (a.code + 4 * (b.code + 4 * (c.code + 4 * d.code))) % 4 = a.code := by omega
  have eb : (a.code + 4 * (b.code + 4 * (c.code + 4 * d.code))) / 4 % 4 = b.code := by omega
  have ec : (a.code + 4 * (b.code + 4 * (c.code + 4 * d.code))) / 16 % 4 = c.code := by omega
  have ed : (a.code + 4 * (b.code + 4 * (c.code + 4 * d.code))) / 64 = d.code := by omega
  simp only [framed, checkBytes, Notice.bytes, List.foldr, Nat.mul_zero, Nat.add_zero, readNotice, List.cons_append,
    List.nil_append, hbyte, ea, eb, ec, ed, readBayCode_code ha, readBayCode_code hb, readBayCode_code hc,
    readBayCode_code hd]
  simp [Nat.mod_eq_of_lt hid]

theorem goodNotice_framed {n m : Notice} (h : readNotice (framed n.bytes) = some m) : goodNotice (framed n.bytes) = some m := by
  have hne : n.bytes ≠ [] := by cases n <;> simp [Notice.bytes]
  rw [goodNotice, framePasses_framed hne, if_pos rfl, h]

/-- Settles O49: the frame passes its check, and the form test reads each field back. -/
theorem noticeRoundTrip : Obligations.NoticeRoundTrip := by
  refine ⟨fun p hid hq hprec hseg hoff hspeed hheld hwanted hids => ⟨?_, p.length_framed⟩, fun id q hid hq => ?_,
    fun id a b c d hid ha hb hc hd => ?_⟩
  · exact goodNotice_framed (readNotice_position hid hq hprec hseg hoff hspeed hheld hwanted hids)
  · exact goodNotice_framed (readNotice_leave hid hq)
  · exact goodNotice_framed (readNotice_crane hid ha hb hc hd)

end Sys2Proof.Machine
end

section
/-! PROOFS. The Line Driver (9.1 to 9.3; O40). -/

namespace Sys2Proof.Machine

/-! ### The hand-over -/

section
variable (phase : Nat) (g : Guidance) (d : Drive)

theorem Drive.deliver_same (h : d.last = (g.permit, g.code)) : d.deliver phase g = d := if_pos h

theorem Drive.deliver_changed (h : d.last ≠ (g.permit, g.code)) : d.deliver phase g =
    { last := (g.permit, g.code), line := d.line.take phase g.permit g.code, fell := d.fell || (d.line.permit && !g.permit) } :=
  if_neg h

/-- A fall is noted beside those before it, and is no input of the hand-over. -/
theorem Drive.deliver_fell : d.deliver phase g =
    { Drive.deliver phase g { d with fell := false } with fell := d.fell || (Drive.deliver phase g { d with fell := false }).fell } := by
  unfold Drive.deliver
  dsimp only
  split <;> simp

theorem Drive.deliver_periodStart : (d.deliver phase g).line.periodStart = d.line.periodStart := by
  unfold Drive.deliver
  split <;> rfl

/-- The permit level falls exactly where a hand-over notes it (R150). -/
theorem Drive.deliver_fell_iff (h : d.fell = false) :
    (d.deliver phase g).fell = (d.line.permit && !(d.deliver phase g).line.permit) := by
  unfold Drive.deliver
  split
  · simp [h]
  · simp [h, LineDriver.take]

end

theorem State.raiseIf_or (a b : Bool) (e : Event) (s : State) : s.raiseIf (a || b) e = (s.raiseIf a e).raiseIf b e := by
  cases a <;> cases b
  · rfl
  · rfl
  · rfl
  · simp [State.raiseIf, State.raise, BitVec.or_assoc]

/-- Two hand-overs in one are the first and then the second (R133). -/
theorem State.setGuide_deliver (phase : Nat) (g g₁ : Guidance) (d : Drive) (s : State) :
    s.setGuide g (d.deliver phase g) = State.setGuide g (Drive.deliver phase g { d with fell := false })
      { s.raiseIf d.fell .permitDrop with guide := g₁, line := d.line } := by
  rw [Drive.deliver_fell]
  unfold State.setGuide
  dsimp only
  rw [State.raiseIf_or]
  cases d.fell <;> rfl

theorem State.setGuide_choices (g : Guidance) (d : Drive) (n : Nat) (s : State) :
    State.setGuide g d { s with choices := n } = { s.setGuide g d with choices := n } := by
  unfold State.setGuide
  cases d.fell <;> rfl

/-! ### One recomputation (R133, R149) -/

section
variable (s : State)

theorem State.recompute_line : s.recompute.line = (s.drive.deliver s.phase s.guidance).line := s.setGuide_line _ _

theorem State.recompute_line_same (h : (s.guidance.permit, s.guidance.code) = (s.guide.permit, s.guide.code)) :
    s.recompute.line = s.line := by
  rw [s.recompute_line, Drive.deliver_same _ _ _ h.symm]
  rfl

theorem State.recompute_line_changed (h : (s.guidance.permit, s.guidance.code) ≠ (s.guide.permit, s.guide.code)) :
    s.recompute.line = s.line.take s.phase s.guidance.permit s.guidance.code := by
  rw [s.recompute_line, Drive.deliver_changed _ _ _ (Ne.symm h)]
  rfl

theorem State.setGuide_port (g : Guidance) (d : Drive) : (s.setGuide g d).port = (s.raiseIf d.fell .permitDrop).port := by
  unfold State.setGuide
  cases d.fell <;> rfl

/-- PERMIT_DROP is raised exactly at a fall of the permit level. -/
theorem State.recompute_raises :
    s.recompute.port = (s.raiseIf (s.line.permit && !s.recompute.line.permit) .permitDrop).port := by
  rw [s.recompute_line, State.recompute, s.setGuide_port, Drive.deliver_fell_iff _ _ _ rfl]
  rfl

end

theorem LineDriver.take_pending {phase : Nat} {g : Guidance} (h : g.permit = false → g.code = 0) (l : LineDriver) :
    (l.take phase g.permit g.code).pendingCode = g.code := by
  unfold LineDriver.take
  split
  · rfl
  · next hp => exact (h (Bool.eq_false_iff.mpr hp)).symm

theorem LineDriver.take_high_iff (phase : Nat) (permit : Bool) (code : Nat) (l : LineDriver) :
    let force := if permit then min code l.code else 0
    (l.take phase permit code).high = true ↔ l.high = true ∧ (force = l.code ∨ phase < force * 10000 / 255) := by
  intro force
  have hle : force ≤ l.code := by
    simp only [force]
    split
    · exact Nat.min_le_right ..
    · exact Nat.zero_le _
  have htake : (l.take phase permit code).high =
      (l.high && !(decide (force < l.code) && decide (force * 10000 / 255 ≤ phase))) := rfl
  simp only [htake, Bool.and_eq_true, Bool.not_eq_true', Bool.and_eq_false_iff, decide_eq_false_iff_not, Nat.not_lt, Nat.not_le]
  exact and_congr_right fun _ => or_congr_left ⟨fun h => Nat.le_antisymm hle h, fun h => h.ge⟩

/-! ### An event heard of itself and through the claim list (log 7) -/

/-- Record and lines are no input of the guidance record. -/
theorem State.lines_guidance (g : Guidance) (l : LineDriver) (s : State) :
    ({ s with guide := g, line := l } : State).guidance = s.guidance := rfl

/-- A recomputation over a record and lines that a hand-over left, at the phase of the state before it. -/
theorem State.recompute_over (g : Guidance) (l : LineDriver) (s : State) (h : l.periodStart = s.line.periodStart) :
    State.recompute { s with guide := g, line := l } = State.setGuide s.guidance
      (Drive.deliver s.phase s.guidance { last := (g.permit, g.code), line := l, fell := false }) { s with guide := g, line := l } := by
  have hphase : State.phase { s with guide := g, line := l } = s.phase := congrArg (s.clock - ·) h
  rw [State.recompute, s.lines_guidance, hphase]
  rfl

/-- Where the Guidance Unit hears of the event first, the record of the inputs before it is handed over first. -/
theorem State.guided_early (k : State → State) (s : State) (hline : (k s).line = s.line) (n : Nat) :
    let t := k s
    let first := State.raiseIf (s.line.permit && !s.recompute.line.permit) .permitDrop t
    State.setGuide t.guidance ((s.drive.deliver s.phase s.guidance).deliver t.phase t.guidance) { t with choices := n } =
      { State.recompute { first with guide := s.guidance, line := s.recompute.line } with choices := n } := by
  intro t first
  have hframe : ReportFrame t first := t.raiseIf_frame _ _
  have hkeeps : DriveKept t first := t.raiseIf_driveKept _ _
  have hfell : (s.drive.deliver s.phase s.guidance).fell = (s.line.permit && !s.recompute.line.permit) := by
    rw [Drive.deliver_fell_iff _ _ _ rfl, s.recompute_line]
    rfl
  have hstart : s.recompute.line.periodStart = first.line.periodStart := by
    rw [s.recompute_line, Drive.deliver_periodStart, hkeeps.line, hline]
    rfl
  have hinputs : first.guidance = t.guidance := State.raiseIf_guidance _ _ t
  have hphase : first.phase = t.phase := by simp only [State.phase, hframe.clock, hkeeps.line]
  have hlast := Drive.deliver_last s.phase s.guidance s.drive
  rw [State.setGuide_choices, State.setGuide_deliver _ _ s.guidance, hfell, hlast, ← s.recompute_line,
    State.recompute_over _ _ _ hstart, hinputs, hphase]

theorem State.guided_hands (k : State → State) (s : State) (hline : (k s).line = s.line) :
    let t := k s
    let first := State.raiseIf (s.line.permit && !s.recompute.line.permit) .permitDrop t
    let early := State.recompute { first with guide := s.guidance, line := s.recompute.line }
    s.guided k = t.recompute ∨ s.guided k = { t.recompute with choices := t.choices + 1 } ∨
      s.guided k = { early with choices := t.choices + 1 } := by
  intro t first early
  unfold State.guided
  dsimp only
  split
  · exact .inl rfl
  · split
    · exact .inr (.inr (State.guided_early k s hline _))
    · exact .inr (.inl (State.setGuide_choices _ _ _ _))

theorem claimEvent_line (own : State → State × List Claim) (exam : Bool) (s : State) :
    (claimEvent own exam s).1.line = (own s).1.line := (claimEvent_after_driveKept own exam s).line

/-! ### The ceiling line's own events (R151) -/

theorem State.periodBegin_clock (s : State) : s.periodBegin.clock = max s.clock (s.line.periodStart + 10000) := rfl

theorem State.periodBegin_phase (s : State) : s.periodBegin.phase < 10000 := by
  simp only [State.phase, State.periodBegin, Config.periodLength, State.reach_clock, State.reach_line]
  omega

theorem State.periodBegin_start (s : State) (h : s.clock ≤ s.line.periodStart + 10000) :
    s.periodBegin.line.periodStart = s.line.periodStart + 10000 := by
  simp only [State.periodBegin, Config.periodLength, State.reach_clock, State.reach_line]
  omega

theorem widthOf_lt_iff (code : Nat) : widthOf code < Config.periodLength ↔ code < 255 := by
  simp only [widthOf, Config.periodLength]
  omega

theorem State.widthEnd_falls (s : State) (hhigh : s.line.high = true) (hcode : s.line.code < 255) : s.widthEnd =
    { s with clock := max s.clock (s.line.periodStart + s.line.code * 10000 / 255), line := { s.line with high := false } } := by
  unfold State.widthEnd
  rw [if_pos (by simpa [hhigh, widthOf_lt_iff] using hcode)]
  rfl

theorem State.widthEnd_stays (s : State) (h : s.line.high = false ∨ 255 ≤ s.line.code) : s.widthEnd = s := by
  unfold State.widthEnd
  rw [if_neg]
  simp only [Bool.and_eq_true, decide_eq_true_eq, widthOf_lt_iff, not_and, Nat.not_lt]
  intro hhigh
  exact h.resolve_left (by simp [hhigh])

/-- Settles O40: the hand-over by whether the pair changed, of one record or of two, and the rows of the ceiling line. -/
theorem ceilingLine : Obligations.CeilingLine := by
  refine ⟨fun s k hline => ⟨State.guided_guide k s, State.guided_hands k s hline⟩, fun s own exam hline => ?_, fun s => ?_,
    fun s hrun => ?_⟩
  · exact ⟨(claimEvent_line own exam s).trans hline, s.testArrival_driveKept.line, s.trim_driveKept.line⟩
  · refine ⟨s.recompute_guide, s.recompute_line_same, fun hchanged => ?_⟩
    have hpermit : s.recompute.line.permit = s.guidance.permit := by rw [s.recompute_line_changed hchanged]; rfl
    have hport := s.recompute_raises
    rw [hpermit] at hport
    rw [s.recompute_line_changed hchanged]
    refine ⟨rfl, LineDriver.take_pending (fun hp => (State.guidance_held hp).2.1) _, rfl, LineDriver.take_high_iff .., ?_, ?_⟩
    · intro hwas hnow
      rw [hwas, hnow] at hport
      exact ⟨fun e => (congrArg (fun p : CommandPort => p.flags.getLsbD e.bit) hport).trans (s.flag_raise_eq e .permitDrop),
        by rw [hport]; rfl⟩
    · intro hkept
      have hno : (s.line.permit && !s.guidance.permit) = false := by
        rcases hkept with h | h <;> simp [h]
      rw [hport, hno]
      rfl
  · refine ⟨⟨s.periodBegin, ?_, s.periodBegin_clock, rfl, rfl, rfl, rfl, s.periodBegin_phase, s.periodBegin_start, rfl⟩, ?_, ?_⟩
    · exact congrArg Host.Outcome.next (State.unlessHeld_running _ s hrun)
    · intro hhigh hcode
      exact (congrArg Host.Outcome.next (State.unlessHeld_running _ s hrun)).trans (congrArg _ (s.widthEnd_falls hhigh hcode))
    · intro hstays
      exact (congrArg Host.Outcome.next (State.unlessHeld_running _ s hrun)).trans (congrArg _ (s.widthEnd_stays hstays))

end Sys2Proof.Machine
end

section
/-! PROOFS. The places of entries and body, the held runs and the exact root (00, 8.1, 8.2; for O51, O52, O53). -/

namespace Sys2Proof.Machine

/-! ### The exact root (R1) -/

/-- The bits tried keep the root's square at or below n, and n below the square of the root with the untried bits. -/
theorem sqrtBits_spec (n k r : Nat) (hlow : r * r ≤ n) (hhigh : n < (r + 2 ^ k) * (r + 2 ^ k)) :
    sqrtBits n k r * sqrtBits n k r ≤ n ∧ n < (sqrtBits n k r + 1) * (sqrtBits n k r + 1) := by
  induction k generalizing r with
  | zero => exact ⟨hlow, hhigh⟩
  | succ k ih =>
    unfold sqrtBits
    split
    · next hbit => exact ih _ hbit (by rw [Nat.add_assoc, ← Nat.two_mul, ← Nat.pow_succ']; exact hhigh)
    · next hbit => exact ih _ hlow (Nat.lt_of_not_le hbit)

theorem isqrt_spec (n : Nat) : isqrt n * isqrt n ≤ n ∧ n < (isqrt n + 1) * (isqrt n + 1) := by
  refine sqrtBits_spec n _ 0 (Nat.zero_le _) ?_
  rw [Nat.zero_add, ← Nat.pow_add]
  exact Nat.lt_log2_self.trans_le (Nat.pow_le_pow_right (by decide) (by omega))

/-! ### Places along the route (R23) -/

/-- The route distance at which an entry begins: the lengths of the entries before it. -/
def startOf (m : MapStore) (l : List RouteEntry) (k : Nat) : Int := ((l.take k).map (fun x => (m.lengthOf x.seg : Int))).sum

theorem spansFrom_getElem? (m : MapStore) (i : Nat) (d : Int) (l : List RouteEntry) (k : Nat) :
    (spansFrom m i d l)[k]? = l[k]?.map (fun e =>
      { index := i + k, seg := e.seg, sign := e.sign, start := d + startOf m l k,
        stop := d + startOf m l k + m.lengthOf e.seg }) := by
  induction l generalizing i d k with
  | nil => rfl
  | cons e rest ih =>
    cases k with
    | zero => simp [spansFrom, startOf]
    | succ k =>
      rw [spansFrom, List.getElem?_cons_succ, ih, List.getElem?_cons_succ]
      simp [startOf, Int.add_assoc, Nat.add_assoc, Nat.add_comm 1]

theorem State.spans_getElem? (s : State) (k : Nat) : s.spans[k]? = (s.route.entries[k]?).map (fun e =>
    { index := k, seg := e.seg, sign := e.sign, start := startOf s.map s.route.entries k,
      stop := startOf s.map s.route.entries k + s.map.lengthOf e.seg }) := by
  simp [State.spans, spansFrom_getElem?]

theorem State.spans_length (s : State) : s.spans.length = s.route.entries.length := by
  have hlen (m : MapStore) (l : List RouteEntry) : ∀ i d, (spansFrom m i d l).length = l.length := by
    induction l with
    | nil => intros; rfl
    | cons e rest ih => intro i d; simp [spansFrom, ih]
  exact hlen ..

theorem State.routeLength_eq (s : State) : s.routeLength = startOf s.map s.route.entries s.route.entries.length := by
  simp [State.routeLength, startOf]

/-- An entry ends where it begins or later, and where a later one begins or before. -/
theorem spansFrom_ordered (m : MapStore) (i : Nat) (d : Int) (l : List RouteEntry) :
    (∀ p ∈ spansFrom m i d l, d ≤ p.start ∧ p.start ≤ p.stop) ∧
      (spansFrom m i d l).Pairwise (fun p q => p.stop ≤ q.start) := by
  induction l generalizing i d with
  | nil => exact ⟨nofun, .nil⟩
  | cons e rest ih =>
    obtain ⟨hlater, hordered⟩ := ih (i + 1) (d + m.lengthOf e.seg)
    refine ⟨fun p hp => ?_, List.pairwise_cons.mpr ⟨fun q hq => (hlater q hq).1, hordered⟩⟩
    obtain rfl | hp := List.mem_cons.mp hp
    · exact ⟨Int.le_refl _, by simp⟩
    · exact ⟨by have := (hlater p hp).1; omega, (hlater p hp).2⟩

theorem State.spans_ordered (s : State) : s.spans.Pairwise (fun p q => p.stop ≤ q.start) := (spansFrom_ordered ..).2

theorem State.span_le (s : State) {p : Span} (h : p ∈ s.spans) : p.start ≤ p.stop := ((spansFrom_ordered ..).1 p h).2

/-- Of two entries the one of the lower index ends at or before the other's start. -/
theorem State.spans_before (s : State) {i j : Nat} {p q : Span} (hij : i < j) (hp : s.spans[i]? = some p)
    (hq : s.spans[j]? = some q) : p.stop ≤ q.start := by
  obtain ⟨hi, rfl⟩ := List.getElem?_eq_some_iff.mp hp
  obtain ⟨hj, rfl⟩ := List.getElem?_eq_some_iff.mp hq
  exact List.pairwise_iff_getElem.mp s.spans_ordered i j hi hj hij

/-- The body stands half a length either side of the centre (R96). -/
theorem State.body_at (s : State) (k : Nat) (hq : s.pos.quality ≠ .none) (hi : s.pos.index = some k)
    (hk : k < s.route.entries.length) : s.body = some
      { front := startOf s.map s.route.entries k + s.pos.offset + s.halfLength,
        rear := startOf s.map s.route.entries k + s.pos.offset - s.halfLength } := by
  have hspan : s.currentSpan = s.spans[k]? := by
    unfold State.currentSpan
    cases hquality : s.pos.quality
    · exact absurd hquality hq
    · rw [hi]
    · rw [hi]
  rw [State.body, State.centre, hspan, s.spans_getElem?, List.getElem?_eq_getElem hk]
  rfl

theorem State.body_none (s : State) (h : s.pos.quality = .none ∨ s.pos.index = none) : s.body = none := by
  have hspan : s.currentSpan = none := by
    unfold State.currentSpan
    rcases h with h | h
    · rw [h]
    · cases s.pos.quality <;> rw [h]
  rw [State.body, State.centre, hspan]
  rfl

/-! ### Held runs (R134) -/

theorem State.holds_iff (s : State) (p : Span) : s.holds p = true ↔
    ∃ e ∈ s.claim.list, e.state = .held ∧ e.tie ≠ .detached ∧ e.seg = p.seg ∧ e.spanStart = p.start := by
  simp [State.holds, Claim.isHeld_iff, and_assoc]

/-- The run of spans on which `held` goes on, from the first not skipped, where the body's end stands on it. -/
def heldRun (skip : Span → Bool) (enters : Span → Prop) [DecidablePred enters] (held : Span → Bool) (l : List Span) : List Span :=
  match l.dropWhile skip with
  | p :: rest => if enters p then (p :: rest).takeWhile held else []
  | [] => []

section
variable {skip : Span → Bool} {enters : Span → Prop} [DecidablePred enters] {held : Span → Bool}

theorem heldRun_at {pre post : List Span} {p : Span} (hpre : ∀ q ∈ pre, skip q = true) (hp : skip p = false) (henters : enters p) :
    heldRun skip enters held (pre ++ p :: post) = (p :: post).takeWhile held := by
  rw [heldRun, List.dropWhile_append_of_pos hpre, List.dropWhile_cons_of_neg (by simp [hp])]
  exact if_pos henters

theorem heldRun_none {l : List Span} (h : ∀ p ∈ l, skip p = false → ¬ enters p) : heldRun skip enters held l = [] := by
  unfold heldRun
  split
  · next p rest hdrop =>
    have hmem : p ∈ l := (List.dropWhile_suffix skip).subset (by rw [hdrop]; exact List.mem_cons_self)
    have hskip : skip p = false := by
      have := List.head?_dropWhile_not skip l
      rw [hdrop] at this
      simpa using this
    rw [if_neg (h p hmem hskip)]
  · rfl

end

/-- The front part taken while a test holds ends at the first element that fails it. -/
theorem takeWhile_eq_take {α : Type} (f : α → Bool) (l : List α) :
    ∃ n, l.takeWhile f = l.take n ∧ ∀ q, l[n]? = some q → f q = false := by
  refine ⟨(l.takeWhile f).length, List.prefix_iff_eq_take.mp (List.takeWhile_prefix f), fun q hq => ?_⟩
  have hsplit := List.takeWhile_append_dropWhile (p := f) (l := l)
  rw [← hsplit, List.getElem?_append_right (by simp), hsplit, Nat.sub_self, ← List.head?_eq_getElem?] at hq
  have := List.head?_dropWhile_not f l
  rw [hq] at this
  simpa using this

section
variable (s : State) (b : Body)

theorem State.forwardRun_eq : s.forwardRun b =
    heldRun (fun p => decide (p.stop < b.front)) (fun p => p.start < b.front) s.holds s.spans := rfl

theorem State.backwardRun_eq : s.backwardRun b =
    heldRun (fun p => decide (p.start > b.rear)) (fun p => p.stop > b.rear) s.holds s.spans.reverse := rfl

/-- The forward run begins at the entry under the front end. -/
theorem State.forwardRun_at {i : Nat} {p : Span} (hp : s.spans[i]? = some p) (hstart : p.start < b.front) (hstop : b.front ≤ p.stop) :
    s.forwardRun b = (s.spans.drop i).takeWhile s.holds := by
  obtain ⟨hi, hpi⟩ := List.getElem?_eq_some_iff.mp hp
  have hdrop : s.spans.drop i = p :: s.spans.drop (i + 1) := by rw [List.drop_eq_getElem_cons hi, hpi]
  have hbehind : ∀ q ∈ s.spans.take i, decide (q.stop < b.front) = true := fun q hq => by
    obtain ⟨j, hj, hq⟩ := List.mem_take_iff_getElem.mp hq
    have := s.spans_before (by omega) (List.getElem?_eq_some_iff.mpr ⟨_, hq⟩) hp
    exact decide_eq_true (by omega)
  have hrun := heldRun_at (enters := fun p => p.start < b.front) (held := s.holds) (post := s.spans.drop (i + 1)) hbehind
    (decide_eq_false (Int.not_lt.mpr hstop)) hstart
  rwa [← hdrop, List.take_append_drop] at hrun

/-- The backward run begins at the entry under the rear end. -/
theorem State.backwardRun_at {i : Nat} {p : Span} (hp : s.spans[i]? = some p) (hstart : p.start ≤ b.rear) (hstop : b.rear < p.stop) :
    s.backwardRun b = (s.spans.take (i + 1)).reverse.takeWhile s.holds := by
  obtain ⟨hi, hpi⟩ := List.getElem?_eq_some_iff.mp hp
  have htake : (s.spans.take (i + 1)).reverse = p :: (s.spans.take i).reverse := by
    rw [List.take_succ_eq_append_getElem hi, hpi, List.reverse_append]
    rfl
  have hahead : ∀ q ∈ (s.spans.drop (i + 1)).reverse, decide (q.start > b.rear) = true := fun q hq => by
    obtain ⟨j, hj, hq⟩ := List.mem_drop_iff_getElem.mp (List.mem_reverse.mp hq)
    have := s.spans_before (by omega) hp (List.getElem?_eq_some_iff.mpr ⟨_, hq⟩)
    exact decide_eq_true (by omega)
  have hrun := heldRun_at (enters := fun p => p.stop > b.rear) (held := s.holds) (post := (s.spans.take i).reverse) hahead
    (decide_eq_false (Int.not_lt.mpr hstart)) hstop
  rwa [← htake, ← List.reverse_append, List.take_append_drop] at hrun

theorem State.forwardRun_none (h : ∀ p ∈ s.spans, ¬ (p.start < b.front ∧ b.front ≤ p.stop)) : s.forwardRun b = [] :=
  heldRun_none fun p hp hskip henters => h p hp ⟨henters, Int.not_lt.mp (of_decide_eq_false hskip)⟩

theorem State.backwardRun_none (h : ∀ p ∈ s.spans, ¬ (p.start ≤ b.rear ∧ b.rear < p.stop)) : s.backwardRun b = [] :=
  heldRun_none fun p hp hskip henters => h p (List.mem_reverse.mp hp) ⟨Int.not_lt.mp (of_decide_eq_false hskip), henters⟩

/-- Every entry of the forward run is held and ends at the front end or ahead of it. -/
theorem State.forwardRun_mem {q : Span} (hq : q ∈ s.forwardRun b) : s.holds q = true ∧ q ∈ s.spans ∧ b.front ≤ q.stop := by
  by_cases h : ∃ (i : Nat) (p : Span), s.spans[i]? = some p ∧ p.start < b.front ∧ b.front ≤ p.stop
  · obtain ⟨i, p, hp, hstart, hstop⟩ := h
    rw [s.forwardRun_at b hp hstart hstop] at hq
    have hheld := List.mem_takeWhile_imp hq
    have hdrop := (List.takeWhile_prefix s.holds).subset hq
    refine ⟨hheld, List.mem_of_mem_drop hdrop, ?_⟩
    obtain ⟨j, hj, hqj⟩ := List.mem_drop_iff_getElem.mp hdrop
    have hq' := List.getElem?_eq_some_iff.mpr ⟨_, hqj⟩
    rcases Nat.eq_zero_or_pos j with rfl | hpos
    · obtain rfl : p = q := Option.some.inj (hp.symm.trans hq')
      exact hstop
    · have := s.spans_before (by omega) hp hq'
      have := s.span_le (List.mem_of_getElem? hq')
      omega
  · rw [s.forwardRun_none b fun p hp hunder => ?_] at hq
    · exact nomatch hq
    · obtain ⟨i, hi⟩ := List.mem_iff_getElem?.mp hp
      exact h ⟨i, p, hi, hunder⟩

/-- Every entry of the backward run is held and begins at the rear end or behind it. -/
theorem State.backwardRun_mem {q : Span} (hq : q ∈ s.backwardRun b) : s.holds q = true ∧ q ∈ s.spans ∧ q.start ≤ b.rear := by
  by_cases h : ∃ (i : Nat) (p : Span), s.spans[i]? = some p ∧ p.start ≤ b.rear ∧ b.rear < p.stop
  · obtain ⟨i, p, hp, hstart, hstop⟩ := h
    rw [s.backwardRun_at b hp hstart hstop] at hq
    have hheld := List.mem_takeWhile_imp hq
    have htake := List.mem_reverse.mp ((List.takeWhile_prefix s.holds).subset hq)
    refine ⟨hheld, List.mem_of_mem_take htake, ?_⟩
    obtain ⟨j, hj, hqj⟩ := List.mem_take_iff_getElem.mp htake
    have hq' := List.getElem?_eq_some_iff.mpr ⟨_, hqj⟩
    rcases Nat.lt_succ_iff_lt_or_eq.mp (Nat.lt_of_lt_of_le hj (Nat.min_le_left ..)) with hlt | rfl
    · have := s.spans_before hlt hq' hp
      have := s.span_le (List.mem_of_getElem? hq')
      omega
    · obtain rfl : p = q := Option.some.inj (hp.symm.trans hq')
      exact hstart
  · rw [s.backwardRun_none b fun p hp hunder => ?_] at hq
    · exact nomatch hq
    · obtain ⟨i, hi⟩ := List.mem_iff_getElem?.mp hp
      exact h ⟨i, p, hi, hunder⟩

end

end Sys2Proof.Machine
end

section
/-! PROOFS. The travel limits, the ceiling and its cause (8.3 to 8.6; O51). -/

namespace Sys2Proof.Machine

/-! ### The first of the least terms (R145) -/

/-- c names the least value x of the terms, and no term of that value stands before it in the order of naming. -/
def FirstLeast (rank : Cause → Nat) (term : Cause → Int → Prop) (c : Cause) (x : Int) : Prop :=
  term c x ∧ (∀ d y, term d y → x ≤ y) ∧ ∀ d, term d x → rank c ≤ rank d

/-- The terms stand in the order of naming, from rank lo to rank hi. -/
def Ranked (rank : Cause → Nat) (lo hi : Nat) (l : List (Cause × Int)) : Prop :=
  l.Pairwise (fun u v => rank u.1 ≤ rank v.1) ∧ ∀ u ∈ l, lo ≤ rank u.1 ∧ rank u.1 ≤ hi

section
variable {rank : Cause → Nat}

theorem Ranked.same {c : Cause} {l : List (Cause × Int)} (h : ∀ u ∈ l, u.1 = c) : Ranked rank (rank c) (rank c) l :=
  ⟨List.pairwise_of_forall_mem_list fun u hu v hv => by rw [h u hu, h v hv],
    fun u hu => by rw [h u hu]; exact ⟨Nat.le_refl _, Nat.le_refl _⟩⟩

theorem Ranked.pair {u v : Cause × Int} {lo hi : Nat} (hu : rank u.1 = lo) (hv : rank v.1 = hi) (h : lo ≤ hi := by decide) :
    Ranked rank lo hi [u, v] :=
  ⟨by simpa [hu, hv] using h, by simpa [hu, hv] using h⟩

theorem Ranked.append {lo mid mid' hi : Nat} {l r : List (Cause × Int)} (hl : Ranked rank lo mid l) (hr : Ranked rank mid' hi r)
    (hlo : lo ≤ mid') (hmid : mid ≤ mid') (hhi : mid ≤ hi) : Ranked rank lo hi (l ++ r) :=
  ⟨List.pairwise_append.mpr ⟨hl.1, hr.1, fun u hu v hv => ((hl.2 u hu).2.trans hmid).trans (hr.2 v hv).1⟩,
    fun u hu => (List.mem_append.mp hu).elim (fun hu => ⟨(hl.2 u hu).1, (hl.2 u hu).2.trans hhi⟩)
      fun hu => ⟨hlo.trans (hr.2 u hu).1, (hr.2 u hu).2⟩⟩

theorem leastTerm_first {lo hi : Nat} {l : List (Cause × Int)} {term : Cause → Int → Prop} {t : Cause × Int}
    (h : leastTerm l = some t) (hranked : Ranked rank lo hi l) (hterm : ∀ c x, (c, x) ∈ l ↔ term c x) :
    FirstLeast rank term t.1 t.2 := by
  refine ⟨(hterm _ _).mp (leastTerm_mem h), fun d y hd => leastTerm_le h ((hterm d y).mpr hd), fun d hd => ?_⟩
  obtain ⟨pre, post, rfl, hpre, hpost⟩ := leastTerm_eq_some h
  have hmem := (hterm d _).mpr hd
  obtain hbefore | hafter := List.mem_append.mp hmem
  · exact absurd (hpre _ hbefore) (Int.lt_irrefl _)
  · obtain heq | hafter := List.mem_cons.mp hafter
    · rw [← heq]
    · have hordered := (List.pairwise_append.mp hranked.1).2.1
      exact (List.pairwise_cons.mp hordered).1 _ hafter

end

/-- A limit is the least of its distances, floored at 0 and clamped (R135, R143). -/
def LeastLimit (l : List Int) (limit : Nat) : Prop := ∃ x ∈ l, (∀ y ∈ l, x ≤ y) ∧ limit = min 65535 x.toNat

theorem leastTerm_limit {l : List (Cause × Int)} {t : Cause × Int} {ds : List Int} (h : leastTerm l = some t)
    (hds : ∀ x, x ∈ ds ↔ ∃ c, (c, x) ∈ l) : LeastLimit ds (limitOf t.2) :=
  ⟨t.2, (hds _).mpr ⟨t.1, leastTerm_mem h⟩, fun y hy => by
    obtain ⟨c, hc⟩ := (hds y).mp hy
    exact leastTerm_le h hc, rfl⟩

/-! ### The terms of the travel limits (R135, R136, R143) -/

section
variable (s : State) (b : Body)

/-- A span's bay that is not OPEN. -/
def State.shutOn (p : Span) : Bool :=
  match s.bayOf p.seg with
  | some .opened => false
  | some _ => true
  | none => false

theorem State.bayClosed_eq (p : Span) : s.bayClosed p.seg = s.shutOn p := by
  unfold State.bayClosed State.shutOn
  cases s.bayOf p.seg with
  | none => rfl
  | some st => cases st <;> rfl

/-- The distances to the closed bays ahead on the forward run. -/
def State.baysAhead : List Int :=
  ((s.forwardRun b).filter (fun p => decide (b.front ≤ p.start) && s.shutOn p)).map
    (fun p => p.start - b.front - s.standoff)

/-- The distances to the closed bays behind on the backward run. -/
def State.baysBehind : List Int :=
  ((s.backwardRun b).filter (fun p => decide (p.stop ≤ b.rear) && s.shutOn p)).map
    (fun p => b.rear - p.stop - s.standoff)

/-- The distance to the destination, with a stop. -/
def State.destinationAhead : List Int :=
  match s.route.stop, s.spans.getLast? with
  | some d, some p => [p.start + d - (b.front - s.halfLength)]
  | _, _ => []

/-- The distance to the forward run's end. -/
def State.grantAhead : List Int := ((s.forwardRun b).getLast?.map (fun p => p.stop - b.front - s.standoff)).toList

/-- The distance to the backward run's end. -/
def State.grantBehind : List Int := ((s.backwardRun b).getLast?.map (fun p => b.rear - p.start - s.standoff)).toList

/-- The distance to the route's end, without a stop. -/
def State.routeEndAhead : List Int := if s.route.stop = none then [s.routeLength - b.front - s.standoff] else []

theorem State.ptlTerms_eq : s.ptlTerms b = (if s.bayStopsAhead b then [(Cause.bay, 0)] else []) ++
    ((s.baysAhead b).map (Prod.mk .bay) ++ ((s.destinationAhead b).map (Prod.mk .destination) ++
      ((s.grantAhead b).map (Prod.mk .grantEnd) ++ (s.routeEndAhead b).map (Prod.mk .routeEnd)))) := by
  simp only [State.ptlTerms, s.bayClosed_eq, State.baysAhead, State.destinationAhead, State.grantAhead, State.routeEndAhead, Body.sees]
  cases s.route.stop <;> cases s.spans.getLast? <;> cases (s.forwardRun b).getLast? <;> simp

theorem State.rearwardTerms_eq : s.rearwardTerms b = (if s.bayStopsBack b then [(Cause.bay, 0)] else []) ++
    ((s.baysBehind b).map (Prod.mk .bay) ++ (s.grantBehind b).map (Prod.mk .grantEnd)) := by
  simp only [State.rearwardTerms, s.bayClosed_eq, State.baysBehind, State.grantBehind, Body.passed]
  cases (s.backwardRun b).getLast? <;> simp

/-! ### The travel limits -/

/-- A bay that is neither OPEN nor SHUT under the body holds it in place (R136). -/
def State.HoldingBay (x : Nat × Int × Int) : Prop := s.bayOf x.1 = some .hoist ∨ s.bayOf x.1 = some .unknown

/-- A SHUT bay that the body has not yet entered from behind (R136). -/
def State.EnteringBay (x : Nat × Int × Int) : Prop := s.bayOf x.1 = some .shut ∧ b.rear < x.2.1 ∧ b.front < x.2.2

/-- A SHUT bay that the body has not yet entered from ahead (R136). -/
def State.BackingBay (x : Nat × Int × Int) : Prop := s.bayOf x.1 = some .shut ∧ x.2.2 < b.front ∧ x.2.1 < b.rear

theorem State.bayStopsAhead_iff : s.bayStopsAhead b = true ↔
    ∃ x ∈ s.stretchesUnder b, s.HoldingBay x ∨ s.EnteringBay b x := by
  rw [State.bayStopsAhead, List.any_eq_true]
  refine exists_congr fun x => and_congr_right fun _ => ?_
  unfold State.HoldingBay State.EnteringBay
  cases s.bayOf x.1 with
  | none => simp
  | some st => cases st <;> simp

theorem State.bayStopsBack_iff : s.bayStopsBack b = true ↔
    ∃ x ∈ s.stretchesUnder b, s.HoldingBay x ∨ s.BackingBay b x := by
  rw [State.bayStopsBack, List.any_eq_true]
  refine exists_congr fun x => and_congr_right fun _ => ?_
  unfold State.HoldingBay State.BackingBay
  cases s.bayOf x.1 with
  | none => simp
  | some st => cases st <;> simp

/-- The limit ahead is that of the least of its terms, with its cause. -/
theorem State.ptl_some (h : s.forwardRun b ≠ []) :
    ∃ t, leastTerm (s.ptlTerms b) = some t ∧ s.ptl b = (t.1, limitOf t.2) := by
  have hrun : (s.forwardRun b).isEmpty = false := List.isEmpty_eq_false_iff.mpr h
  cases hleast : leastTerm (s.ptlTerms b) with
  | none =>
    have := leastTerm_none hleast
    simp [s.ptlTerms_eq, State.grantAhead, h] at this
  | some t => exact ⟨t, rfl, by rw [State.ptl, hrun, hleast]; rfl⟩

theorem State.rearward_some (h : s.backwardRun b ≠ []) :
    ∃ t, leastTerm (s.rearwardTerms b) = some t ∧ s.rearward b = (t.1, limitOf t.2) := by
  have hrun : (s.backwardRun b).isEmpty = false := List.isEmpty_eq_false_iff.mpr h
  cases hleast : leastTerm (s.rearwardTerms b) with
  | none =>
    have := leastTerm_none hleast
    simp [s.rearwardTerms_eq, State.grantBehind, h] at this
  | some t => exact ⟨t, rfl, by rw [State.rearward, hrun, hleast]; rfl⟩

theorem State.ptl_norun (h : s.forwardRun b = []) : (s.ptl b).2 = 0 := by
  rw [State.ptl, h]
  rfl

theorem State.rearward_norun (h : s.backwardRun b = []) : (s.rearward b).2 = 0 := by
  rw [State.rearward, h]
  rfl

theorem limitOf_nonpos {d : Int} (h : d ≤ 0) : limitOf d = 0 := by
  rw [limitOf, Int.toNat_of_nonpos h]
  rfl

theorem State.ptl_stopped (h : s.bayStopsAhead b = true) : (s.ptl b).2 = 0 := by
  by_cases hrun : s.forwardRun b = []
  · exact s.ptl_norun b hrun
  · obtain ⟨t, ht, hptl⟩ := s.ptl_some b hrun
    have hmem : (Cause.bay, (0 : Int)) ∈ s.ptlTerms b := by simp [s.ptlTerms_eq, h]
    rw [hptl]
    exact limitOf_nonpos (leastTerm_le ht hmem)

theorem State.rearward_stopped (h : s.bayStopsBack b = true) : (s.rearward b).2 = 0 := by
  by_cases hrun : s.backwardRun b = []
  · exact s.rearward_norun b hrun
  · obtain ⟨t, ht, hlimit⟩ := s.rearward_some b hrun
    have hmem : (Cause.bay, (0 : Int)) ∈ s.rearwardTerms b := by simp [s.rearwardTerms_eq, h]
    rw [hlimit]
    exact limitOf_nonpos (leastTerm_le ht hmem)

/-- The order in which R145 names the terms of a travel limit. -/
def limitRank : Cause → Nat
  | .bay => 0
  | .destination => 1
  | .grantEnd => 2
  | _ => 3

/-- A term of the limit ahead. -/
def State.ForwardTerm (c : Cause) (x : Int) : Prop :=
  (c = .bay ∧ ∃ q ∈ s.forwardRun b, b.front ≤ q.start ∧ s.shutOn q = true ∧ x = q.start - b.front - s.standoff) ∨
  (c = .destination ∧ x ∈ s.destinationAhead b) ∨
  (c = .grantEnd ∧ ∃ q, (s.forwardRun b).getLast? = some q ∧ x = q.stop - b.front - s.standoff) ∨
  (c = .routeEnd ∧ x ∈ s.routeEndAhead b)

/-- A term of the limit behind. -/
def State.BackwardTerm (c : Cause) (x : Int) : Prop :=
  (c = .bay ∧ ∃ q ∈ s.backwardRun b, q.stop ≤ b.rear ∧ s.shutOn q = true ∧ x = b.rear - q.stop - s.standoff) ∨
  (c = .grantEnd ∧ ∃ q, (s.backwardRun b).getLast? = some q ∧ x = b.rear - q.start - s.standoff)

theorem mem_map_cause {c d : Cause} {x : Int} {l : List Int} : (c, x) ∈ l.map (Prod.mk d) ↔ c = d ∧ x ∈ l := by
  rw [List.mem_map]
  exact ⟨fun ⟨y, hy, h⟩ => ⟨(Prod.mk.inj h).1.symm, (Prod.mk.inj h).2 ▸ hy⟩, fun ⟨hc, hx⟩ => ⟨x, hx, hc ▸ rfl⟩⟩

theorem mem_map_iff {α : Type} {f : α → Int} {x : Int} {l : List α} : x ∈ l.map f ↔ ∃ q ∈ l, x = f q :=
  List.mem_map.trans (exists_congr fun _ => and_congr_right fun _ => eq_comm)

theorem mem_toList_map {α : Type} {f : α → Int} {x : Int} {o : Option α} : x ∈ (o.map f).toList ↔ ∃ q, o = some q ∧ x = f q := by
  rw [Option.mem_toList, Option.map_eq_some_iff]
  exact exists_congr fun _ => and_congr_right fun _ => eq_comm

theorem State.mem_ptlTerms (h : s.bayStopsAhead b = false) (c : Cause) (x : Int) :
    (c, x) ∈ s.ptlTerms b ↔ s.ForwardTerm b c x := by
  simp only [s.ptlTerms_eq, h, Bool.false_eq_true, if_false, List.nil_append, List.mem_append, mem_map_cause,
    State.ForwardTerm, State.baysAhead, State.grantAhead, mem_toList_map, mem_map_iff, List.mem_filter,
    Bool.and_eq_true, decide_eq_true_eq, and_assoc]

theorem State.mem_rearwardTerms (h : s.bayStopsBack b = false) (c : Cause) (x : Int) :
    (c, x) ∈ s.rearwardTerms b ↔ s.BackwardTerm b c x := by
  simp only [s.rearwardTerms_eq, h, Bool.false_eq_true, if_false, List.nil_append, List.mem_append, mem_map_cause,
    State.BackwardTerm, State.baysBehind, State.grantBehind, mem_toList_map, mem_map_iff, List.mem_filter,
    Bool.and_eq_true, decide_eq_true_eq, and_assoc]

/-- Terms of one cause stand at its rank. -/
theorem Ranked.map (rank : Cause → Nat) (c : Cause) (l : List Int) : Ranked rank (rank c) (rank c) (l.map (Prod.mk c)) :=
  .same fun u hu => by
    obtain ⟨x, -, rfl⟩ := List.mem_map.mp hu
    rfl

theorem State.ptlTerms_ranked (h : s.bayStopsAhead b = false) : Ranked limitRank 0 3 (s.ptlTerms b) := by
  rw [s.ptlTerms_eq, h, if_neg Bool.false_ne_true, List.nil_append]
  exact (Ranked.map limitRank .bay _).append ((Ranked.map limitRank .destination _).append
    ((Ranked.map limitRank .grantEnd _).append (Ranked.map limitRank .routeEnd _) (lo := 2) (by decide) (by decide) (by decide))
    (lo := 1) (by decide) (by decide) (by decide)) (by decide) (by decide) (by decide)

theorem State.rearwardTerms_ranked (h : s.bayStopsBack b = false) : Ranked limitRank 0 2 (s.rearwardTerms b) := by
  rw [s.rearwardTerms_eq, h, if_neg Bool.false_ne_true, List.nil_append]
  exact (Ranked.map limitRank .bay _).append (Ranked.map limitRank .grantEnd _) (by decide) (by decide) (by decide)

/-- The limit ahead with its cause: of the least terms the first in order. -/
theorem State.ptl_first (hrun : s.forwardRun b ≠ []) (h : s.bayStopsAhead b = false) :
    ∃ x, FirstLeast limitRank (s.ForwardTerm b) (s.ptl b).1 x := by
  obtain ⟨t, ht, hptl⟩ := s.ptl_some b hrun
  exact ⟨t.2, hptl ▸ leastTerm_first ht (s.ptlTerms_ranked b h) (s.mem_ptlTerms b h)⟩

theorem State.rearward_first (hrun : s.backwardRun b ≠ []) (h : s.bayStopsBack b = false) :
    ∃ x, FirstLeast limitRank (s.BackwardTerm b) (s.rearward b).1 x := by
  obtain ⟨t, ht, hlimit⟩ := s.rearward_some b hrun
  exact ⟨t.2, hlimit ▸ leastTerm_first ht (s.rearwardTerms_ranked b h) (s.mem_rearwardTerms b h)⟩

theorem State.ptl_least {p : Span} (hp : (s.forwardRun b).getLast? = some p) (h : s.bayStopsAhead b = false) :
    LeastLimit ([p.stop - b.front - s.standoff] ++ s.routeEndAhead b ++ s.destinationAhead b ++ s.baysAhead b) (s.ptl b).2 := by
  obtain ⟨t, ht, hptl⟩ := s.ptl_some b (by rintro hnil; simp [hnil] at hp)
  rw [hptl]
  refine leastTerm_limit ht fun x => ?_
  simp only [s.ptlTerms_eq, h, Bool.false_eq_true, if_false, List.nil_append, List.mem_append, List.mem_map, Prod.mk.injEq,
    State.grantAhead, hp, Option.map_some, Option.toList_some, List.mem_singleton]
  grind

theorem State.rearward_least {p : Span} (hp : (s.backwardRun b).getLast? = some p) (h : s.bayStopsBack b = false) :
    LeastLimit ([b.rear - p.start - s.standoff] ++ s.baysBehind b) (s.rearward b).2 := by
  obtain ⟨t, ht, hlimit⟩ := s.rearward_some b (by rintro hnil; simp [hnil] at hp)
  rw [hlimit]
  refine leastTerm_limit ht fun x => ?_
  simp only [s.rearwardTerms_eq, h, Bool.false_eq_true, if_false, List.nil_append, List.mem_append, List.mem_map,
    Prod.mk.injEq, State.grantBehind, hp, Option.map_some, Option.toList_some, List.mem_singleton]
  grind

end

/-! ### The ceiling's terms in their order (R137, R138, R144) -/

/-- The order in which R145 names the terms of the ceiling; the end's term bears the limit's cause. -/
def ceilingRank : Cause → Nat
  | .window => 0
  | .classCeiling => 1
  | .vmax => 3
  | .quality => 3
  | _ => 2

section
variable (s : State) (b : Body)

/-- A speed from which the carrier can slow to c over d. -/
def State.slowing (c : Nat) (d : Int) : Int := isqrt (c * c + 2 * s.deceleration * d.toNat)

def State.WindowUnder (x : Int) : Prop :=
  (∃ p ∈ s.routeUnder b, ∃ w ∈ s.map.windowsOn p.seg,
    (s.placeWindow p w).1 < b.front ∧ b.rear < (s.placeWindow p w).2 ∧ x = w.ceiling) ∨
  ∃ e ∈ s.detachedUnder b, ∃ w ∈ s.map.windowsOn e.seg, x = w.ceiling

def State.ClassUnder (x : Int) : Prop := ∃ y ∈ s.stretchesUnder b, x = s.ceilingOf y.1

def State.WindowAhead (ptl : Nat) (x : Int) : Prop :=
  ∃ p, (p ∈ s.routeUnder b ∨ (p ∈ s.forwardRun b ∧ b.front ≤ p.start)) ∧ ∃ w ∈ s.map.windowsOn p.seg,
    0 ≤ (s.placeWindow p w).1 - b.front ∧ (s.placeWindow p w).1 - b.front ≤ ptl ∧
      x = s.slowing w.ceiling ((s.placeWindow p w).1 - b.front)

def State.ClassAhead (ptl : Nat) (x : Int) : Prop := ∃ p ∈ s.forwardRun b, b.front ≤ p.start ∧
  p.start - b.front ≤ ptl ∧ x = s.slowing (s.ceilingOf p.seg) (p.start - b.front)

/-- A term of the base ceiling AHEAD. -/
def State.AheadTerm (ptl : Nat) (ending c : Cause) (x : Int) : Prop :=
  (c = .window ∧ (s.WindowUnder b x ∨ s.WindowAhead b ptl x)) ∨ (c = .classCeiling ∧ (s.ClassUnder b x ∨ s.ClassAhead b ptl x)) ∨
  (c = ending ∧ x = s.slowing 0 ptl) ∨ (c = .vmax ∧ x = s.vmax)

/-- A term of the ceiling BACK. -/
def State.BackTerm (limit : Nat) (ending c : Cause) (x : Int) : Prop :=
  (c = .window ∧ s.WindowUnder b x) ∨ (c = .classCeiling ∧ s.ClassUnder b x) ∨
  (c = ending ∧ x = s.slowing 0 limit) ∨ (c = .quality ∧ x = s.creep)

theorem State.mem_windowsUnder (c : Cause) (x : Int) : (c, x) ∈ s.windowsUnder b ↔ c = .window ∧ s.WindowUnder b x := by
  simp only [State.windowsUnder, State.WindowUnder, List.mem_append, List.mem_flatMap, List.mem_map, List.mem_filter,
    Bool.and_eq_true, decide_eq_true_eq, Prod.mk.injEq, gt_iff_lt]
  grind

theorem State.mem_windowsAhead (ptl : Nat) (c : Cause) (x : Int) :
    (c, x) ∈ s.windowsAhead b ptl ↔ c = .window ∧ s.WindowAhead b ptl x := by
  simp only [State.windowsAhead, State.WindowAhead, State.runAhead, Body.sees, State.braking, State.slowing, List.mem_append,
    List.mem_flatMap, List.mem_map, List.mem_filter, Bool.and_eq_true, decide_eq_true_eq, Prod.mk.injEq, ge_iff_le]
  grind

theorem State.mem_classesUnder (c : Cause) (x : Int) : (c, x) ∈ s.classesUnder b ↔ c = .classCeiling ∧ s.ClassUnder b x := by
  simp only [State.classesUnder, State.ClassUnder, List.mem_map, Prod.mk.injEq]
  grind

theorem State.mem_classesAhead (ptl : Nat) (c : Cause) (x : Int) :
    (c, x) ∈ s.classesAhead b ptl ↔ c = .classCeiling ∧ s.ClassAhead b ptl x := by
  simp only [State.classesAhead, State.ClassAhead, State.runAhead, Body.sees, State.braking, State.slowing, List.mem_map,
    List.mem_filter, decide_eq_true_eq, Prod.mk.injEq, ge_iff_le]
  grind

theorem State.mem_aheadTerms (p : Cause × Nat) (c : Cause) (x : Int) :
    (c, x) ∈ s.aheadTerms b p ↔ s.AheadTerm b p.2 p.1 c x := by
  simp only [State.aheadTerms, List.mem_append, s.mem_windowsUnder, s.mem_windowsAhead, s.mem_classesUnder, s.mem_classesAhead,
    List.mem_cons, List.not_mem_nil, Prod.mk.injEq, State.AheadTerm, State.braking, State.slowing, Int.toNat_natCast]
  grind

theorem State.mem_backTerms (p : Cause × Nat) (c : Cause) (x : Int) :
    (c, x) ∈ s.backTerms b p ↔ s.BackTerm b p.2 p.1 c x := by
  simp only [State.backTerms, List.mem_append, s.mem_windowsUnder, s.mem_classesUnder,
    List.mem_cons, List.not_mem_nil, Prod.mk.injEq, State.BackTerm, State.braking, State.slowing, Int.toNat_natCast]
  grind

theorem State.AheadTerm.nonneg {s : State} {b : Body} {ptl : Nat} {ending c : Cause} {x : Int} (h : s.AheadTerm b ptl ending c x) :
    0 ≤ x := by
  obtain ⟨-, (⟨_, -, w, -, -, -, rfl⟩ | ⟨_, -, w, -, rfl⟩) | ⟨_, -, w, -, -, -, rfl⟩⟩ | ⟨-, ⟨_, -, rfl⟩ | ⟨_, -, -, -, rfl⟩⟩ |
    ⟨-, rfl⟩ | ⟨-, rfl⟩ := h <;> exact Int.natCast_nonneg _

theorem State.BackTerm.nonneg {s : State} {b : Body} {limit : Nat} {ending c : Cause} {x : Int}
    (h : s.BackTerm b limit ending c x) : 0 ≤ x := by
  obtain ⟨-, ⟨_, -, w, -, -, -, rfl⟩ | ⟨_, -, w, -, rfl⟩⟩ | ⟨-, _, -, rfl⟩ | ⟨-, rfl⟩ | ⟨-, rfl⟩ := h <;>
    exact Int.natCast_nonneg _

theorem State.windowsUnder_same : ∀ u ∈ s.windowsUnder b, u.1 = .window := fun u hu => ((s.mem_windowsUnder b u.1 u.2).mp hu).1

theorem State.classesUnder_same : ∀ u ∈ s.classesUnder b, u.1 = .classCeiling :=
  fun u hu => ((s.mem_classesUnder b u.1 u.2).mp hu).1

theorem State.aheadTerms_ranked (p : Cause × Nat) (h : ceilingRank p.1 = 2) : Ranked ceilingRank 0 3 (s.aheadTerms b p) := by
  have hw : Ranked ceilingRank 0 0 (s.windowsUnder b ++ s.windowsAhead b p.2) :=
    .same (c := .window) fun u hu => (List.mem_append.mp hu).elim (s.windowsUnder_same b u)
      fun hu => ((s.mem_windowsAhead b p.2 u.1 u.2).mp hu).1
  have hc : Ranked ceilingRank 1 1 (s.classesUnder b ++ s.classesAhead b p.2) :=
    .same (c := .classCeiling) fun u hu => (List.mem_append.mp hu).elim (s.classesUnder_same b u)
      fun hu => ((s.mem_classesAhead b p.2 u.1 u.2).mp hu).1
  have he : Ranked ceilingRank 2 3 [(p.1, (s.braking 0 p.2 : Int)), (.vmax, (s.vmax : Int))] :=
    .pair h rfl
  rw [State.aheadTerms, List.append_assoc _ (s.classesUnder b)]
  exact (hw.append hc (by decide) (by decide) (by decide) (hi := 1)).append he (by decide) (by decide) (by decide)

theorem State.backTerms_ranked (p : Cause × Nat) (h : ceilingRank p.1 = 2) : Ranked ceilingRank 0 3 (s.backTerms b p) := by
  have hw : Ranked ceilingRank 0 0 (s.windowsUnder b) := .same (s.windowsUnder_same b)
  have hc : Ranked ceilingRank 1 1 (s.classesUnder b) := .same (s.classesUnder_same b)
  have he : Ranked ceilingRank 2 3 [(p.1, (s.braking 0 p.2 : Int)), (.quality, (s.creep : Int))] :=
    .pair h rfl
  exact (hw.append hc (by decide) (by decide) (by decide) (hi := 1)).append he (by decide) (by decide) (by decide)

/-! ### The record (R142 to R146) -/

variable {s b}

theorem State.ForwardTerm.rank {c : Cause} {x : Int} (h : s.ForwardTerm b c x) : ceilingRank c = 2 := by
  obtain ⟨rfl, -⟩ | ⟨rfl, -⟩ | ⟨rfl, -⟩ | ⟨rfl, -⟩ := h <;> rfl

theorem State.BackwardTerm.rank {c : Cause} {x : Int} (h : s.BackwardTerm b c x) : ceilingRank c = 2 := by
  obtain ⟨rfl, -⟩ | ⟨rfl, -⟩ := h <;> rfl

section
variable (hb : s.body = some b)
include hb

theorem State.guidance_limits : s.guidance.ptl = (s.ptl b).2 ∧ s.guidance.rearward = (s.rearward b).2 ∧
    s.guidance.direction = s.sense := by
  cases hs : s.sense with
  | ahead => rw [s.guidance_ahead b hb hs]; split <;> exact ⟨rfl, rfl, rfl⟩
  | back => rw [s.guidance_back b hb hs]; split <;> exact ⟨rfl, rfl, rfl⟩

theorem State.guidance_permit_iff : s.guidance.permit = true ↔ s.ctl.state = .run ∧
    0 < (if s.sense = .ahead then s.guidance.ptl else s.guidance.rearward) := by
  obtain ⟨hptl, hrear, -⟩ := s.guidance_limits hb
  rw [hptl, hrear]
  cases hs : s.sense with
  | ahead =>
    rw [s.guidance_ahead b hb hs]
    split
    · next h => simpa [State.movingRecord] using h
    · next h => simpa [heldRecord] using h
  | back =>
    rw [s.guidance_back b hb hs]
    split
    · next h => simpa [State.movingRecord] using h
    · next h => simpa [heldRecord] using h

theorem State.guidance_moving_ahead (hp : s.guidance.permit = true) (hs : s.sense = .ahead) : 0 < (s.ptl b).2 ∧
    s.guidance.cause = (s.aheadCeiling b (s.ptl b)).1 ∧ s.guidance.ceiling = (s.aheadCeiling b (s.ptl b)).2.toNat := by
  rw [s.guidance_ahead b hb hs] at hp ⊢
  split at hp
  · next h =>
    rw [if_pos h]
    exact ⟨h.2, rfl, rfl⟩
  · exact nomatch hp

theorem State.guidance_moving_back (hp : s.guidance.permit = true) (hs : s.sense = .back) : 0 < (s.rearward b).2 ∧
    s.guidance.cause = (s.backCeiling b (s.rearward b)).1 ∧ s.guidance.ceiling = (s.backCeiling b (s.rearward b)).2.toNat := by
  rw [s.guidance_back b hb hs] at hp ⊢
  split at hp
  · next h =>
    rw [if_pos h]
    exact ⟨h.2, rfl, rfl⟩
  · exact nomatch hp

/-- The ceiling is at most each term of what the body lies on (R144). -/
theorem State.guidance_ceiling_le_under {x : Nat} (h : s.WindowUnder b x ∨ s.ClassUnder b x) : s.guidance.ceiling ≤ x := by
  cases hp : s.guidance.permit with
  | false => exact (State.guidance_held hp).1.le.trans (Nat.zero_le x)
  | true =>
    cases hs : s.sense with
    | ahead =>
      obtain ⟨-, -, hceiling⟩ := s.guidance_moving_ahead hb hp hs
      have hle := (s.aheadCeiling_le b (s.ptl b)).1
      rw [hceiling, Int.toNat_le]
      obtain h | h := h
      · exact hle (.window, x) ((s.mem_aheadTerms b _ _ _).mpr (.inl ⟨rfl, .inl h⟩))
      · exact hle (.classCeiling, x) ((s.mem_aheadTerms b _ _ _).mpr (.inr (.inl ⟨rfl, .inl h⟩)))
    | back =>
      obtain ⟨-, -, hceiling⟩ := s.guidance_moving_back hb hp hs
      have hle := s.backCeiling_le b (s.rearward b)
      rw [hceiling, Int.toNat_le]
      obtain h | h := h
      · exact hle (.window, x) ((s.mem_backTerms b _ _ _).mpr (.inl ⟨rfl, h⟩))
      · exact hle (.classCeiling, x) ((s.mem_backTerms b _ _ _).mpr (.inr (.inl ⟨rfl, h⟩)))

/-- Moving back or while DOUBTFUL the ceiling is at most the creep (R141, R144). -/
theorem State.guidance_ceiling_le_creep (hp : s.guidance.permit = true) (h : s.sense = .back ∨ s.pos.quality = .doubtful) :
    s.guidance.ceiling ≤ s.creep := by
  cases hs : s.sense with
  | ahead =>
    obtain ⟨-, -, hceiling⟩ := s.guidance_moving_ahead hb hp hs
    rw [hceiling, Int.toNat_le]
    exact (s.aheadCeiling_le b (s.ptl b)).2 (h.resolve_left (by simp [hs]))
  | back =>
    obtain ⟨-, -, hceiling⟩ := s.guidance_moving_back hb hp hs
    rw [hceiling, Int.toNat_le]
    exact s.backCeiling_le b (s.rearward b) (.quality, s.creep) (by simp [State.backTerms])

theorem State.guidance_code : s.guidance.code = s.guidance.ceiling * 255 / s.vmax := by
  cases hs : s.sense with
  | ahead => rw [s.guidance_ahead b hb hs]; split <;> simp [State.movingRecord, heldRecord, State.codeOf]
  | back => rw [s.guidance_back b hb hs]; split <;> simp [State.movingRecord, heldRecord, State.codeOf]

/-- AHEAD with a permit: the base is the first of the least terms, scaled by the load and held to the creep (R137 to R141). -/
theorem State.guidance_cause_ahead (hp : s.guidance.permit = true) (hs : s.sense = .ahead) : ∃ ending limit c base,
    FirstLeast limitRank (s.ForwardTerm b) ending limit ∧
    FirstLeast ceilingRank (s.AheadTerm b s.guidance.ptl ending) c base ∧
    if s.pos.quality = .doubtful ∧ (s.creep : Int) < s.scaled base
      then s.guidance.cause = .quality ∧ s.guidance.ceiling = s.creep
    else if s.scaled base < base then s.guidance.cause = .load ∧ (s.guidance.ceiling : Int) = s.scaled base
    else s.guidance.cause = c ∧ (s.guidance.ceiling : Int) = base := by
  obtain ⟨hpos, hcause, hceiling⟩ := s.guidance_moving_ahead hb hp hs
  have hfree : s.bayStopsAhead b = false := Bool.eq_false_iff.mpr fun h => by
    have := s.ptl_stopped b h
    omega
  have hrun : s.forwardRun b ≠ [] := fun h => by
    have := s.ptl_norun b h
    omega
  obtain ⟨limit, hlimit⟩ := s.ptl_first b hrun hfree
  rw [(s.guidance_limits hb).1]
  cases hleast : leastTerm (s.aheadTerms b (s.ptl b)) with
  | none =>
    have := leastTerm_none hleast
    simp [State.aheadTerms] at this
  | some t =>
    have hfirst := leastTerm_first hleast (s.aheadTerms_ranked b _ hlimit.1.rank) (s.mem_aheadTerms b (s.ptl b))
    refine ⟨(s.ptl b).1, limit, t.1, t.2, hlimit, hfirst, ?_⟩
    have hbase : 0 ≤ t.2 := hfirst.1.nonneg
    have hscaled : 0 ≤ s.scaled t.2 := le_min hbase (Int.le_max_left ..)
    rw [hcause, hceiling, State.aheadCeiling, hleast]
    dsimp only
    split
    · exact ⟨rfl, Int.toNat_natCast _⟩
    · split
      · exact ⟨rfl, Int.toNat_of_nonneg hscaled⟩
      · exact ⟨rfl, Int.toNat_of_nonneg hbase⟩

/-- BACK with a permit: the ceiling is the first of the least terms (R144, R145). -/
theorem State.guidance_cause_back (hp : s.guidance.permit = true) (hs : s.sense = .back) : ∃ ending limit,
    FirstLeast limitRank (s.BackwardTerm b) ending limit ∧
    FirstLeast ceilingRank (s.BackTerm b s.guidance.rearward ending) s.guidance.cause s.guidance.ceiling := by
  obtain ⟨hpos, hcause, hceiling⟩ := s.guidance_moving_back hb hp hs
  have hfree : s.bayStopsBack b = false := Bool.eq_false_iff.mpr fun h => by
    have := s.rearward_stopped b h
    omega
  have hrun : s.backwardRun b ≠ [] := fun h => by
    have := s.rearward_norun b h
    omega
  obtain ⟨limit, hlimit⟩ := s.rearward_first b hrun hfree
  refine ⟨(s.rearward b).1, limit, hlimit, ?_⟩
  rw [(s.guidance_limits hb).2.1, hcause, hceiling, State.backCeiling]
  cases hleast : leastTerm (s.backTerms b (s.rearward b)) with
  | none =>
    have := leastTerm_none hleast
    simp [State.backTerms] at this
  | some t =>
    have hfirst := leastTerm_first hleast (s.backTerms_ranked b _ hlimit.1.rank) (s.mem_backTerms b (s.rearward b))
    have hnat : ((t.2.toNat : Nat) : Int) = t.2 := Int.toNat_of_nonneg hfirst.1.nonneg
    dsimp only
    rw [hnat]
    exact hfirst

end

end

/-- A span outside a run ends it. -/
theorem State.not_holds {s : State} {p : Span} (h : s.holds p = false) :
    ¬ ∃ e ∈ s.claim.list, e.state = .held ∧ e.tie ≠ .detached ∧ e.seg = p.seg ∧ e.spanStart = p.start :=
  fun hheld => Bool.false_ne_true (h.symm.trans ((s.holds_iff p).mpr hheld))

/-- Settles O51: the root and the places, then each law of the record from that of its limits and terms. -/
theorem limitLaws : Obligations.LimitLaws := by
  refine ⟨isqrt_spec, fun s k => ⟨s.spans_getElem? k, s.routeLength_eq, s.body_at k, s.body_none⟩, fun s b hb => ?_⟩
  obtain ⟨hptl, hrearward, hdirection⟩ := s.guidance_limits hb
  have hload : ∀ base, s.scaled base =
      min base (max 0 (base * (if s.load = .empty then s.tuning 41 else s.tuning 42) / 128 + s.tuningInt 43)) := fun base => by
    unfold State.scaled State.gain
    cases s.load <;> rfl
  have hfreeAhead : (∀ x ∈ s.stretchesUnder b, ¬ s.HoldingBay x ∧ ¬ s.EnteringBay b x) → s.bayStopsAhead b = false := fun h =>
    Bool.eq_false_iff.mpr fun hstop => by
      obtain ⟨x, hx, hbay⟩ := (s.bayStopsAhead_iff b).mp hstop
      exact hbay.elim (h x hx).1 (h x hx).2
  have hfreeBack : (∀ x ∈ s.stretchesUnder b, ¬ s.HoldingBay x ∧ ¬ s.BackingBay b x) → s.bayStopsBack b = false := fun h =>
    Bool.eq_false_iff.mpr fun hstop => by
      obtain ⟨x, hx, hbay⟩ := (s.bayStopsBack_iff b).mp hstop
      exact hbay.elim (h x hx).1 (h x hx).2
  refine ⟨fun p hp => ?_, fun p hp => ?_, fun i p hp hstart hstop => ?_, s.forwardRun_none b, fun i p hp hstart hstop => ?_,
    s.backwardRun_none b, fun h => ?_, fun h => ?_, fun x hx h => ⟨?_, ?_⟩, fun x hx h => ?_, fun x hx h => ?_,
    fun p hp h => ?_, fun p hp h => ?_, hdirection, s.guidance_permit_iff hb, fun h => State.guidance_held h,
    s.guidance_ceiling_le_vmax, s.guidance_ceiling_le_creep hb, fun x hx => ?_, fun p hp w hw hnear hfar => ?_,
    fun e he w hw => ?_, s.guidance_code hb, fun p w => ?_, fun hp => ⟨fun hs => ?_, s.guidance_cause_back hb hp⟩⟩
  · obtain ⟨hheld, hmem, hstop⟩ := s.forwardRun_mem b hp
    exact ⟨(s.holds_iff p).mp hheld, hmem, hstop⟩
  · obtain ⟨hheld, hmem, hstart⟩ := s.backwardRun_mem b hp
    exact ⟨(s.holds_iff p).mp hheld, hmem, hstart⟩
  · obtain ⟨n, hn, hend⟩ := takeWhile_eq_take s.holds (s.spans.drop i)
    exact ⟨n, (s.forwardRun_at b hp hstart hstop).trans hn, fun q hq => State.not_holds (hend q (by simpa using hq))⟩
  · obtain ⟨n, hn, hend⟩ := takeWhile_eq_take s.holds (s.spans.take (i + 1)).reverse
    exact ⟨n, (s.backwardRun_at b hp hstart hstop).trans hn, fun q hq => State.not_holds (hend q hq)⟩
  · rw [hptl, s.ptl_norun b h]
  · rw [hrearward, s.rearward_norun b h]
  · rw [hptl, s.ptl_stopped b ((s.bayStopsAhead_iff b).mpr ⟨x, hx, .inl h⟩)]
  · rw [hrearward, s.rearward_stopped b ((s.bayStopsBack_iff b).mpr ⟨x, hx, .inl h⟩)]
  · rw [hptl, s.ptl_stopped b ((s.bayStopsAhead_iff b).mpr ⟨x, hx, .inr h⟩)]
  · rw [hrearward, s.rearward_stopped b ((s.bayStopsBack_iff b).mpr ⟨x, hx, .inr h⟩)]
  · rw [hptl]
    exact s.ptl_least b hp (hfreeAhead h)
  · rw [hrearward]
    exact s.rearward_least b hp (hfreeBack h)
  · exact s.guidance_ceiling_le_under hb (.inr ⟨x, hx, rfl⟩)
  · exact s.guidance_ceiling_le_under hb (.inl (.inl ⟨p, hp, w, hw, hnear, hfar, rfl⟩))
  · exact s.guidance_ceiling_le_under hb (.inl (.inr ⟨e, he, w, hw, rfl⟩))
  · unfold State.placeWindow
    cases p.sign <;> rfl
  · obtain ⟨ending, limit, c, base, hlimit, hfirst, hrecord⟩ := s.guidance_cause_ahead hb hp hs
    rw [hload] at hrecord
    exact ⟨ending, limit, c, base, hlimit, hfirst, hrecord⟩

end Sys2Proof.Machine
end

section
/-! PROOFS. The reads (11.4, 11.5; O33, O34). -/

namespace Sys2Proof.Machine

/-! ### The codes of the layouts (R180) -/

theorem Motion.code_eq (m : Motion) : m.code = if m = .still then 1 else 0 := by cases m <;> rfl

theorem Orientation.code_eq (o : Orientation) : o.code = if o = .against then 1 else 0 := by cases o <;> rfl

theorem Sense.code_eq (d : Sense) : d.code = if d = .back then 1 else 0 := by cases d <;> rfl

theorem Load.code_eq (l : Load) : l.code = if l = .laden then 1 else 0 := by cases l <;> rfl

theorem BaySource.code_eq (b : BaySource) : b.code = if b = .overridden then 1 else 0 := by cases b <;> rfl

theorem Sign.code_eq (g : Sign) : g.code = if g = .minus then 1 else 0 := by cases g <;> rfl

theorem Claim.isHeld_eq (e : Claim) : e.isHeld = decide (e.state = .held) := by
  unfold Claim.isHeld
  cases e.state <;> rfl

theorem bitAt_one (b : Bool) : bitAt 1 b = 2 * (if b then 1 else 0) := by cases b <;> rfl

section
variable (s : State)

theorem State.placed_eq : s.placed = !decide (s.pos.quality = .none) := by
  unfold State.placed
  cases s.pos.quality <;> rfl

theorem State.indexHere_packed : packIndex s.indexHere = pack 1 (if s.pos.quality = .none then 127 else s.pos.index.getD 127) := by
  unfold packIndex State.indexHere
  rw [s.placed_eq]
  by_cases h : s.pos.quality = .none <;> simp [h]

theorem State.offsetHere : (if s.placed then s.pos.offset else 0) = if s.pos.quality = .none then 0 else s.pos.offset := by
  rw [s.placed_eq]
  by_cases h : s.pos.quality = .none <;> simp [h]

/-- A read answers DONE with its data, in every state, and changes nothing else (R171). -/
theorem exec_read {s : State} (h : PortFree s) {i : Instr} {c : Cmd} {data : List Byte} (hc : commandOf i = some (c, []))
    (ht : c.takenIn s.ctl.state = true) (hrun : c.run [] s = s.answer data) : exec i s = .next (s.replied .done data) := by
  rw [exec_taken i c [] s h hc ht, hrun]
  rfl

theorem State.craneTime_eq (c : Crane) : s.craneTime c = match c.heardAt with
    | some t => min ((s.clock - t) / 1000) 65535
    | none => 65535 := by
  unfold State.craneTime
  cases c.heardAt <;> rfl

end

/-- Settles O33: each read's data, field by field. -/
theorem plainReads : Obligations.PlainReads := by
  intro s h
  refine ⟨exec_read h rfl rfl (congrArg s.answer ?status), exec_read h rfl rfl (congrArg s.answer ?guidance),
    exec_read h rfl rfl (congrArg s.answer ?position), exec_read h rfl rfl (congrArg s.answer ?route),
    exec_read h rfl rfl (congrArg s.answer ?claims), exec_read h rfl rfl (congrArg s.answer ?bays)⟩
  case status =>
    rw [State.statusData, Orientation.code_eq, Motion.code_eq, State.suspensions, bitAt_one]
    rfl
  case guidance =>
    rw [State.guidanceData, Sense.code_eq, Load.code_eq]
    rfl
  case position =>
    rw [State.positionData, s.indexHere_packed, s.offsetHere, Motion.code_eq, bitAt_one]
    rfl
  case route =>
    rw [State.routeReadData, s.indexHere_packed]
    rfl
  case claims =>
    have hclaim : s.claimData = fun e => pack 2 e.seg ++
        pack 1 ((if e.state = .held then 1 else 0) + (if e.tie = .detached then 2 else 0)) ++ pack 1 e.advertised ++
        pack 3 (s.waited e) := funext fun e => by
      simp [State.claimData, bitAt, Claim.isHeld_eq]
    rw [State.claimsData, State.suspensions, bitAt_one, hclaim]
    rfl
  case bays =>
    have hbay : s.bayData = fun c i b => pack 1 c.id ++ pack 1 i ++ pack 1 b.state.code ++
        pack 1 (if b.source = .overridden then 1 else 0) ++ packBit b.overrideOpen ++ pack 2 b.segment ++
        pack 3 (match c.heardAt with
          | some t => min ((s.clock - t) / 1000) 65535
          | none => 65535) :=
      funext fun c => funext fun i => funext fun b => by rw [State.bayData, BaySource.code_eq, s.craneTime_eq]
    have hcount : s.bays.entries.length = (s.bays.cranes.map (fun c => c.bays.length)).sum := List.length_flatMap
    rw [State.baysData, hcount, hbay]
    rfl

/-! ### The attention line (R173, R174) -/

theorem Event.bit_lt (e : Event) : e.bit < 13 := by cases e <;> decide

theorem Event.bit_surjective (i : Nat) (h : i < 13) : ∃ e : Event, e.bit = i := by
  have : ∀ i : Fin 13, ∃ e : Event, e.bit = i := by
    intro i
    fin_cases i
    exacts [⟨.arrived, rfl⟩, ⟨.waitExpired, rfl⟩, ⟨.faceOff, rfl⟩, ⟨.doubleHold, rfl⟩, ⟨.occupyConflict, rfl⟩,
      ⟨.qualityDrop, rfl⟩, ⟨.overrun, rfl⟩, ⟨.peerLost, rfl⟩, ⟨.saturated, rfl⟩, ⟨.idClash, rfl⟩, ⟨.routeCut, rfl⟩,
      ⟨.bayHold, rfl⟩, ⟨.permitDrop, rfl⟩]
  exact this ⟨i, h⟩

/-- Two words have a bit in common exactly where their conjunction is not 0. -/
theorem and_ne_zero_iff {w : Nat} (x y : BitVec w) : x &&& y ≠ 0#w ↔ ∃ i, i < w ∧ x.getLsbD i = true ∧ y.getLsbD i = true := by
  constructor
  · intro h
    by_contra hnone
    refine h (BitVec.eq_of_getLsbD_eq fun i hi => ?_)
    rw [BitVec.getLsbD_and, BitVec.getLsbD_zero, Bool.and_eq_false_iff]
    by_contra hboth
    simp only [not_or, Bool.not_eq_false] at hboth
    exact hnone ⟨i, hi, hboth⟩
  · rintro ⟨i, -, hx, hy⟩ hzero
    have := congrArg (·.getLsbD i) hzero
    simp [hx, hy] at this

theorem State.attentionLow_iff (s : State) : s.attentionLow = true ↔ s.pins.resetHeld = false ∧
    ∃ e : Event, s.flag e = true ∧ (s.ctl.tuning.getD 46 0).toNat.testBit e.bit = true := by
  rw [State.attentionLow, Bool.and_eq_true, Bool.not_eq_true', bne_iff_ne, and_ne_zero_iff]
  refine and_congr_right fun _ => ⟨fun ⟨i, hi, hflag, hmask⟩ => ?_, fun ⟨e, hflag, hmask⟩ => ⟨e.bit, e.bit_lt, hflag, ?_⟩⟩
  · obtain ⟨e, rfl⟩ := Event.bit_surjective i hi
    rw [State.eventMask, BitVec.getLsbD_ofNat, Bool.and_eq_true] at hmask
    exact ⟨e, hflag, hmask.2⟩
  · rw [State.eventMask, BitVec.getLsbD_ofNat, decide_eq_true e.bit_lt, Bool.true_and]
    exact hmask

/-! ### The reads with parameters, and READ EVENTS -/

theorem State.peerData_eq (s : State) (p : Peer) : s.peerData p =
    pack 2 p.id ++ pack 1 p.status.code ++ pack 2 p.sequence ++ pack 3 (min ((s.clock - p.heardAt) / 1000) 65535) ++
    pack 3 p.missed ++ pack 1 ((if p.still then 1 else 0) + (if p.laden then 2 else 0) + (if p.joining then 4 else 0)) ++
    pack 1 p.prec ++ pack 2 p.segment ++ pack 3 p.offset ++ pack 1 (if p.sign = .minus then 1 else 0) ++ pack 3 p.speed ++
    pack 1 p.held.length ++ p.held.flatMap (pack 2) ++ pack 1 p.wanted.length ++ p.wanted.flatMap (pack 2) := by
  rw [State.peerData, Sign.code_eq]
  rfl

theorem ownReadPeer_some {s : State} {i : Nat} {p : Peer} (h : s.peers.entries[i]? = some p) :
    ownReadPeer [i] s = s.answer (s.peerHead ++ s.peerData p) := by
  simp only [ownReadPeer, h]

theorem ownReadPeer_none {s : State} {i : Nat} (h : s.peers.entries.length ≤ i) :
    ownReadPeer [i] s = (s, some { status := .refusedValue, data := s.peerHead }) := by
  simp only [ownReadPeer, List.getElem?_eq_none h]

theorem ownReadCounters_option (s : State) (v : Nat) (h : 1 < v) : ownReadCounters [v] s = s.refuse .refusedValue := by
  match v, h with
  | v + 2, _ => rfl

/-- Settles O34: the line by the bits that flags and mask share, then each read. -/
theorem readsThatClear : Obligations.ReadsThatClear := by
  refine ⟨fun s => ?line, fun s h => ?reads⟩
  case line =>
    intro bit
    have hbit : bit = Event.bit := funext fun e => by cases e <;> rfl
    rw [hbit]
    exact ⟨s.attentionLow_iff, fun e => ⟨rfl, fun f => State.flag_raise_eq f e s⟩⟩
  case reads =>
    refine ⟨fun i p hp => ?_, fun i hi => ?_, ⟨?_, ?_⟩, fun v hv => ?_, ?_⟩
    · rw [exec_taken _ .readPeer [i] s h rfl rfl, Cmd.run, ownReadPeer_some hp, s.peerData_eq]
      rfl
    · rw [exec_taken _ .readPeer [i] s h rfl rfl, Cmd.run, ownReadPeer_none hi]
      rfl
    · exact exec_taken _ .readCounters [0] s h rfl rfl
    · exact exec_taken _ .readCounters [1] s h rfl rfl
    · rw [State.handOver_taken _ _ _ rfl, Cmd.run, ownReadCounters_option s v hv]
      rfl
    · refine ⟨_, exec_taken _ .readEvents [] s h rfl rfl, rfl, fun e => BitVec.getLsbD_zero, rfl, ?_⟩
      rw [Bool.eq_false_iff, ne_eq, State.attentionLow_iff]
      rintro ⟨-, e, hflag, -⟩
      exact Bool.false_ne_true (BitVec.getLsbD_zero.symm.trans hflag)

end Sys2Proof.Machine
end

section
/-! PROOFS. The input lines and the timers: the reader line (2.4, 9.4; O39), frame arrival (4.2; O41), the timers of the
scheduler, of the peers and of the claims (4.5 to 4.7, 5.3, 5.4, 6.4, 6.9; O45, O46, O47). -/

namespace Sys2Proof.Machine

/-- With the part not held in reset a row does what it does. -/
theorem exec_row {i : Instr} {k : State → State} {s : State} (h : s.pins.resetHeld = false)
    (hrow : exec i s = .next (s.unlessHeld k)) : exec i s = .next (k s) :=
  hrow.trans (congrArg Host.Outcome.next (State.unlessHeld_running k s h))

/-! ### The reader line (R153, R178) -/

/-- A fix decided touches the position, the odometry and the flags. -/
theorem State.decideFix_eq (fix : Int) (s : State) : s.decideFix fix =
    { s with pos := (s.decideFix fix).pos, odo := (s.decideFix fix).odo, port := (s.decideFix fix).port } := by
  have haccept : s.acceptFix fix =
      { s with pos := (s.acceptFix fix).pos, odo := (s.acceptFix fix).odo, port := (s.acceptFix fix).port } := by
    rw [s.acceptFix_eq]
  have hreject (err : Option Int) : s.rejectFix err =
      { s with pos := (s.rejectFix err).pos, odo := (s.rejectFix err).odo, port := (s.rejectFix err).port } := by
    rw [s.rejectFix_eq]
  unfold State.decideFix
  split
  · exact haccept
  · dsimp only
    split
    · rfl
    · split
      · exact haccept
      · split
        · exact haccept
        · exact hreject _

theorem State.takeFix_pins (tagId : Nat) (off : Int) (s : State) : (s.takeFix tagId off).pins = s.pins := by
  unfold State.takeFix
  split
  · rfl
  · refine (State.reportIf_frame _ _).pins.trans ?_
    split
    · exact (congrArg State.pins (s.decideFix_eq _) :)
    · exact (congrArg State.pins (s.rejectFix_eq _) :)

theorem State.takeRead_pins (tagId : Nat) (off : Int) (s : State) : (s.takeRead tagId off).pins = s.pins :=
  (State.takeFix_pins tagId off _).trans (s.creditReported_frame.pins.trans (congrArg State.pins s.credit_eq :))

theorem State.endRead_pins (bytes : List Byte) (s : State) : (s.endRead bytes).pins = s.pins := by
  unfold State.endRead
  split
  · split
    · split
      · rfl
      · exact s.takeRead_pins _ _
    · rfl
  · rfl

/-- A byte on the reader line leaves the reset input. -/
theorem State.readerByte_resetHeld (b : Byte) (s : State) : (s.readerByte b).pins.resetHeld = s.pins.resetHeld := by
  have hhunt : (s.hunt b).pins.resetHeld = s.pins.resetHeld := by
    unfold State.hunt
    split <;> rfl
  unfold State.readerByte
  split
  · exact hhunt
  · split
    · exact hhunt
    · split
      · rfl
      · rw [State.endRead_pins]
        rfl

/-- A line without an open read, or with one whose gap is over, hunts for a lead byte. -/
theorem State.readerByte_hunts (b : Byte) (s : State)
    (h : s.pins.reader = none ∨ ∃ r, s.pins.reader = some r ∧ r.gapEnd < s.clock) : s.readerByte b = s.hunt b := by
  obtain h | ⟨r, hr, hgap⟩ := h
  · simp only [State.readerByte, h]
  · simp only [State.readerByte, hr, State.gapPassed, hgap, decide_true, if_true]

theorem State.readerByte_ends {b b1 b2 b3 b4 : Byte} {r : OpenRead} {s : State} (h : s.pins.reader = some r)
    (hgap : s.clock ≤ r.gapEnd) (hbytes : r.bytes = [b1, b2, b3, b4]) :
    s.readerByte b = (s.setReader none).endRead [b1, b2, b3, b4, b] := by
  simp [State.readerByte, h, State.gapPassed, Nat.not_lt.mpr hgap, hbytes]

theorem State.endRead_taken {b1 b2 b3 b4 b5 : Byte} {tagId : Nat} {off : Int} {s : State}
    (hread : readTag b1 b2 b3 b4 b5 = some (tagId, off)) (hc : s.ctl.state ≠ .config) :
    s.endRead [b1, b2, b3, b4, b5] = s.takeRead tagId off := by
  simp only [State.endRead, hread, if_neg hc]

theorem State.endRead_disregarded {b1 b2 b3 b4 b5 : Byte} {s : State} (h : readTag b1 b2 b3 b4 b5 = none ∨ s.ctl.state = .config) :
    s.endRead [b1, b2, b3, b4, b5] = s := by
  unfold State.endRead
  dsimp only
  split
  · next hread => rw [if_pos (h.resolve_left (by simp [hread]))]
  · rfl

/-- A byte read as a signed number (R178). -/
theorem byte_toInt (b : Byte) : b.toInt = if b.toNat < 128 then (b.toNat : Int) else (b.toNat : Int) - 256 := by
  rw [BitVec.toInt_eq_toNat_cond]
  split <;> split <;> omega

section
variable {b1 b2 b3 b4 b5 : Byte}

theorem readTag_some (hcheck : b5 = b1 ^^^ b2 ^^^ b3 ^^^ b4) (hid : 65536 * b1.toNat + 256 * b2.toNat + b3.toNat ≠ 0)
    (hlow : -100 ≤ b4.toInt) (hhigh : b4.toInt ≤ 100) :
    readTag b1 b2 b3 b4 b5 = some (65536 * b1.toNat + 256 * b2.toNat + b3.toNat, b4.toInt) :=
  if_pos ⟨hcheck, hid, hlow, hhigh⟩

theorem readTag_none (h : b5 ≠ b1 ^^^ b2 ^^^ b3 ^^^ b4 ∨ 65536 * b1.toNat + 256 * b2.toNat + b3.toNat = 0 ∨
    b4.toInt < -100 ∨ 100 < b4.toInt) : readTag b1 b2 b3 b4 b5 = none := by
  refine if_neg fun ⟨hcheck, hid, hlow, hhigh⟩ => ?_
  obtain h | h | h | h := h
  · exact h hcheck
  · exact hid h
  · omega
  · omega

theorem tagId_zero (h : b1 = 0#8 ∧ b2 = 0#8 ∧ b3 = 0#8) : 65536 * b1.toNat + 256 * b2.toNat + b3.toNat = 0 := by
  obtain ⟨rfl, rfl, rfl⟩ := h
  rfl

end

/-- Settles O39: the byte by what read is open, the fifth by the tests of the tag read. -/
theorem readerLine : Obligations.ReaderLine := by
  intro s hrun closed opened
  have hbyte (b : Byte) (t : State) (ht : t.pins.resetHeld = false) : exec (.readerLeadByte b) t = .next (t.readerByte b) :=
    exec_row (k := State.readerByte b) ht rfl
  have hgap : exec .readGapTimeout s = .next s.gapTimeout := exec_row (k := State.gapTimeout) hrun rfl
  refine ⟨fun b h => ?_, fun b r hr hg hlen => ?_, fun r b1 b2 b3 b4 b5 hr hg hbytes => ⟨fun h => ?_, fun tagId off hc hread => ?_,
    fun hcheck hid hlow hhigh => ?_, fun h => ?_⟩, fun h => ?_, fun r hr => ?_,
    fun b1 b2 b3 b4 b5 t1 t2 t3 t4 t5 h1 h2 h3 h4 h5 => ?_⟩
  · rw [hbyte b s hrun, s.readerByte_hunts b h]
    rfl
  · rw [hbyte b s hrun, State.readerByte_kept b r s hr hg hlen]
    rfl
  · rw [hbyte b5 s hrun, State.readerByte_ends hr hg hbytes, State.endRead_disregarded]
    · rfl
    · obtain h | h | h | h | h := h
      · exact .inl (readTag_none (.inl h))
      · exact .inl (readTag_none (.inr (.inl (tagId_zero h))))
      · exact .inl (readTag_none (.inr (.inr (.inl h))))
      · exact .inl (readTag_none (.inr (.inr (.inr h))))
      · exact .inr h
  · rw [hbyte b5 s hrun, State.readerByte_ends hr hg hbytes, State.endRead_taken (s := s.setReader none) hread hc]
    rfl
  · rw [← byte_toInt] at hlow hhigh ⊢
    have hread := readTag_some hcheck hid hlow hhigh
    refine ⟨hread, fun hc => ?_⟩
    rw [hbyte b5 s hrun, State.readerByte_ends hr hg hbytes, State.endRead_taken (s := s.setReader none) hread hc]
    rfl
  · rw [← byte_toInt] at h
    exact readTag_none h
  · rw [hgap, State.gapTimeout, h]
  · rw [hgap, State.gapTimeout, hr]
    rfl
  · have hnext (b : Byte) {t u : State} (ht : t.pins.resetHeld = false) (h : exec (.readerLeadByte b) t = .next u) :
        t.readerByte b = u ∧ u.pins.resetHeld = false := by
      rw [hbyte b t ht] at h
      obtain rfl := Host.Outcome.next.inj h
      exact ⟨rfl, (t.readerByte_resetHeld b).trans ht⟩
    obtain ⟨rfl, hrun1⟩ := hnext b1 hrun h1
    obtain ⟨rfl, hrun2⟩ := hnext b2 hrun1 h2
    obtain ⟨rfl, hrun3⟩ := hnext b3 hrun2 h3
    obtain ⟨rfl, hrun4⟩ := hnext b4 hrun3 h4
    obtain ⟨rfl, -⟩ := hnext b5 hrun4 h5
    exact exec_row (k := State.tagRead b1 b2 b3 b4 b5) hrun rfl

/-! ### Frame arrival (R63, R64, R72) -/

theorem goodNotice_none {f : List Byte} (h : framePasses f = false ∨ readNotice f = none) : goodNotice f = none := by
  unfold goodNotice
  split
  · next hpass => exact h.resolve_left (by simp [hpass])
  · rfl

theorem goodNotice_some {f : List Byte} {n : Notice} (hpass : framePasses f = true) (hread : readNotice f = some n) :
    goodNotice f = some n := by
  rw [goodNotice, if_pos hpass, hread]

/-- Settles O41: disregarded, counted as bad, or counted and offered. -/
theorem frameArrival : Obligations.FrameArrival := by
  intro s f hrun counted marked
  have hrow : exec (.modemFrameArrival f) s = .next (s.frameArrival f) := exec_row (k := State.frameArrival f) hrun rfl
  refine ⟨fun hc => ?_, fun hc hbad => ?_, fun n hc hpass hread => ?_⟩
  · rw [hrow, State.frameArrival, if_pos hc]
  · rw [hrow, State.frameArrival, if_neg hc, goodNotice_none hbad]
    rfl
  · rw [hrow, State.frameArrival, if_neg hc, goodNotice_some hpass hread]
    refine congrArg (fun c : Scheduler => Host.Outcome.next { s with link := s.link.countIn.offer f, sched := c }) ?_
    cases n with
    | position p => by_cases h : p.id = s.ctl.id <;> simp [Notice.signals, h, marked, Scheduler.peerArrival]
    | leave id q => by_cases h : id = s.ctl.id <;> simp [Notice.signals, h, marked, Scheduler.peerArrival]
    | crane id bays => rfl

/-! ### The timers of the claims (R103, R104, R113) -/

theorem firstWanted_eq (l : List Claim) : firstWanted l = l.find? (fun e => e.state == .wanted) := by
  unfold firstWanted
  congr 1
  funext e
  unfold Claim.isHeld
  cases e.state <;> rfl

theorem settleWaits_at (now : Nat) {pre : List Claim} {w : Claim} (post : List Claim) (hpre : ∀ e ∈ pre, e.state = .held)
    (hw : w.state = .wanted) : settleWaits now (pre ++ w :: post) = pre.map (fun e => { e with waitStart := none }) ++
      { w with waitStart := some (w.waitStart.getD now) } :: post.map (fun e => { e with waitStart := none }) := by
  induction pre with
  | nil => simp [settleWaits, Claim.isHeld, hw]
  | cons e pre ih =>
    rw [List.forall_mem_cons] at hpre
    simp [settleWaits, Claim.isHeld, hpre.1, ih hpre.2]

theorem settleWaits_held (now : Nat) {l : List Claim} (h : ∀ e ∈ l, e.state = .held) :
    settleWaits now l = l.map (fun e => { e with waitStart := none }) := by
  induction l with
  | nil => rfl
  | cons e l ih =>
    rw [List.forall_mem_cons] at h
    simp [settleWaits, Claim.isHeld, h.1, ih h.2]

theorem firstWanted_at {pre : List Claim} {w : Claim} (post : List Claim) (hpre : ∀ e ∈ pre, e.state = .held)
    (hw : w.state = .wanted) : firstWanted (pre ++ w :: post) = some w := by
  rw [firstWanted_eq, List.find?_append, List.find?_eq_none.mpr (fun e he => by simp [hpre e he])]
  simp [hw]

theorem firstWanted_held {l : List Claim} (h : ∀ e ∈ l, e.state = .held) : firstWanted l = none := by
  rw [firstWanted_eq, List.find?_eq_none]
  exact fun e he => by simp [h e he]

theorem State.working_iff (s : State) : s.working = true ↔ s.ctl.state = .joining ∨ s.ctl.state = .run := by
  unfold State.working
  cases s.ctl.state <;> simp

/-- Settles O47: each timer's row by whether it runs, and the wait start by where W stands. -/
theorem claimTimers : Obligations.ClaimTimers := by
  intro s hrun
  have hclash : exec .clashTimerExpiry s = .next s.clashExpiry := exec_row (k := State.clashExpiry) hrun rfl
  have hwait : exec .waitExpired s = .next s.waitExpiry := exec_row (k := State.waitExpiry) hrun rfl
  refine ⟨fun h => ?_, fun pre w post hl hpre hw => ?_, fun h => ?_, fun due hdue => ?_, fun w start hst hmark hfront hstart => ?_,
    fun h => ?_⟩
  · rw [hclash, State.clashExpiry, h]
  · rw [State.settleWait, hl, settleWaits_at s.clock post hpre hw, firstWanted_at post hpre hw]
    cases hstart : w.waitStart <;> simp [hstart]
  · rw [State.settleWait, settleWaits_held s.clock h, firstWanted_held h]
  · have hexpiry : s.clashExpiry = State.claimOnly ownNothing true
        { s with clock := max s.clock due, claim := { s.claim with clash := none } } := by
      simp only [State.clashExpiry, hdue]
      rfl
    exact ⟨_, hclash.trans (congrArg _ hexpiry), rfl, State.claimOnly_frame ownNothing true _⟩
  · rw [← firstWanted_eq] at hfront
    have hexpiry : s.waitExpiry = State.raise .waitExpired
        { s with clock := max s.clock (start + 1000000 * s.waitLimit), claim := { s.claim with waitReported := true } } := by
      simp only [State.waitExpiry, s.working_iff.mpr hst, hmark, hfront, Option.bind_some, hstart]
      rfl
    exact ⟨s.waitExpiry, hwait, fun e => by rw [hexpiry]; exact State.flag_raise_eq e .waitExpired _, by rw [hexpiry]; rfl,
      by rw [hexpiry]; rfl⟩
  · rw [hwait, State.waitExpiry]
    rw [← firstWanted_eq] at h
    split
    · next hworks =>
      simp only [Bool.and_eq_true, Bool.not_eq_true', State.working_iff] at hworks
      obtain h | h | h := h
      · exact absurd hworks.1 h
      · exact absurd (h.symm.trans hworks.2) (by decide)
      · rw [h]
        rfl
    · rfl

/-! ### The timers of the peers (R86, R90) -/

/-- A report's frame holds as well over another clock and other peer entries before and after it. -/
theorem ReportFrame.at {s t : State} (h : ReportFrame s t) (now : Nat) (v : PeerView) :
    ReportFrame { s with clock := now, peers := v } { t with clock := now, peers := v } where
  clock := rfl
  pins := h.pins
  map := h.map
  odo := h.odo
  peers := rfl
  bays := h.bays
  load := h.load
  ctl := h.ctl
  pending := h.pending
  pos := h.pos
  link := h.link
  sched := h.sched
  port := h.port
  flags := h.flags
  prec := h.prec
  suspension := h.suspension
  clash := h.clash
  stop := h.stop
  armed := h.armed
  consumed := h.consumed

/-- A status written over a status written is the last one. -/
theorem PeerView.update_update (p : Peer) (a b : PeerStatus) (v : PeerView) :
    (v.update (p.withStatus a)).update (p.withStatus b) = v.update (p.withStatus b) := by
  simp only [PeerView.update, List.map_map]
  congr 1
  refine List.map_congr_left fun q _ => ?_
  by_cases h : q.id = p.id <;> simp [Peer.withStatus, h]

theorem PeerView.find_update {v : PeerView} {id : Nat} {p : Peer} (st : PeerStatus) (h : v.find id = some p) :
    (v.update (p.withStatus st)).find id = some (p.withStatus st) := by
  have hid : p.id = id := by simpa using List.find?_some h
  unfold PeerView.find PeerView.update at *
  generalize v.entries = l at *
  induction l with
  | nil => exact nomatch h
  | cons q l ih =>
    by_cases hq : q.id = id
    · simp [Peer.withStatus, hid, hq]
    · have hmiss : ¬ q.id = p.id := fun hqp => hq (hqp.trans hid)
      have hskip : (q.id == id) = false := by simpa using hq
      simp only [List.find?_cons, hskip] at h
      simp only [List.map_cons, Peer.withStatus, hmiss, if_false, List.find?_cons, hskip]
      exact ih h

section
variable {s : State} {id : Nat} {p : Peer}

/-- A status change reported, at a time. -/
theorem State.agePeer_frame (p : Peer) (st : PeerStatus) (s : State) :
    ReportFrame (s.setPeers (s.peers.update (p.withStatus st))) (s.agePeer p st) := State.reportStatus_frame _

theorem State.quietTimeReached_quiet (hp : s.peers.find id = some p) (h : p.status = .fresh) (hq : s.quietTime < s.lostTime) :
    s.quietTimeReached id = (s.reach (p.heardAt + 1000 * s.quietTime)).agePeer p .quiet := by
  simp only [State.quietTimeReached, hp, if_pos (And.intro h hq)]

theorem State.quietTimeReached_stays (hp : s.peers.find id = some p) (h : p.status ≠ .fresh ∨ s.lostTime ≤ s.quietTime) :
    s.quietTimeReached id = s := by
  have : ¬ (p.status = .fresh ∧ s.quietTime < s.lostTime) := fun ⟨hf, hq⟩ => h.elim (· hf) (Nat.not_le_of_lt hq)
  simp only [State.quietTimeReached, hp, if_neg this]

theorem State.lostTimeReached_lost (hp : s.peers.find id = some p) (h : p.status = .lost) : s.lostTimeReached id = s := by
  simp only [State.lostTimeReached, hp, h]

/-- A station not LOST is lost at its lost time, after its quiet time where that is due (R86). -/
theorem State.lostTimeReached_loses (hp : s.peers.find id = some p) (h : p.status ≠ .lost) :
    s.lostTimeReached id = ((s.quietTimeReached id).reach (p.heardAt + 1000 * s.lostTime)).losePeer p := by
  cases hst : p.status with
  | fresh => simp only [State.lostTimeReached, hp, hst]
  | quiet =>
    rw [State.quietTimeReached_stays hp (.inl (by simp [hst]))]
    simp only [State.lostTimeReached, hp, hst]
  | lost => exact absurd hst h

/-- The lost time passes after the quiet time just as it does at once (log 22). -/
theorem State.lostTimeReached_after (hp : s.peers.find id = some p) (h : p.status = .fresh) (hq : s.quietTime < s.lostTime) :
    (s.quietTimeReached id).lostTimeReached id = s.lostTimeReached id := by
  rw [State.lostTimeReached_loses hp (by simp [h]), State.quietTimeReached_quiet hp h hq]
  have hframe := State.agePeer_frame p .quiet (s.reach (p.heardAt + 1000 * s.quietTime))
  generalize hu : (s.reach (p.heardAt + 1000 * s.quietTime)).agePeer p .quiet = u at hframe
  have hfound : u.peers.find id = some (p.withStatus .quiet) := by rw [hframe.peers]; exact PeerView.find_update .quiet hp
  have hlost : u.lostTime = s.lostTime := by simp only [State.lostTime, State.tuning, State.tuningInt, hframe.ctl]; rfl
  rw [State.lostTimeReached_loses hfound (by simp [Peer.withStatus]),
    State.quietTimeReached_stays hfound (.inl (by simp [Peer.withStatus])), hlost]
  rfl

/-- A station lost raises PEER_LOST and is LOST at its lost time, whatever it was. -/
theorem State.lostTimeReached_frame (hp : s.peers.find id = some p) (h : p.status ≠ .lost) :
    ReportFrame (State.setPeers (s.peers.update (p.withStatus .lost)) (s.reach (p.heardAt + 1000 * s.lostTime)))
      (s.lostTimeReached id) ∧ (s.lostTimeReached id).flag .peerLost = true := by
  rw [State.lostTimeReached_loses hp h]
  obtain ⟨now, v, hlow, hnow, hv, hquiet⟩ : ∃ now v, s.clock ≤ now ∧ now ≤ max s.clock (p.heardAt + 1000 * s.lostTime) ∧
      v.update (p.withStatus .lost) = s.peers.update (p.withStatus .lost) ∧
      ReportFrame { s with clock := now, peers := v } (s.quietTimeReached id) := by
    by_cases hdue : p.status = .fresh ∧ s.quietTime < s.lostTime
    · rw [State.quietTimeReached_quiet hp hdue.1 hdue.2]
      refine ⟨max s.clock (p.heardAt + 1000 * s.quietTime), s.peers.update (p.withStatus .quiet), Nat.le_max_left .., ?_,
        PeerView.update_update p .quiet .lost s.peers,
        State.agePeer_frame p .quiet (s.reach (p.heardAt + 1000 * s.quietTime))⟩
      have := hdue.2
      omega
    · rw [State.quietTimeReached_stays hp (by rw [not_and_or, Nat.not_lt] at hdue; exact hdue)]
      exact ⟨s.clock, s.peers, Nat.le_refl _, Nat.le_max_left .., rfl, ReportFrame.refl s⟩
  generalize s.quietTimeReached id = u at hquiet
  have hclock : max u.clock (p.heardAt + 1000 * s.lostTime) = max s.clock (p.heardAt + 1000 * s.lostTime) := by
    rw [hquiet.clock]
    show max now _ = _
    omega
  have hlost := State.agePeer_frame p .lost ((u.reach (p.heardAt + 1000 * s.lostTime)).raise .peerLost)
  refine ⟨?_, hlost.flags .peerLost ?_⟩
  · refine ReportFrame.trans ?_ hlost
    have hstart : State.setPeers ((u.reach (p.heardAt + 1000 * s.lostTime)).peers.update (p.withStatus .lost))
          ((u.reach (p.heardAt + 1000 * s.lostTime)).raise .peerLost) = State.raise .peerLost
          { u with clock := max s.clock (p.heardAt + 1000 * s.lostTime), peers := s.peers.update (p.withStatus .lost) } :=
      congrArg₂ (fun (c : Nat) (w : PeerView) => State.raise .peerLost { u with clock := c, peers := w }) hclock
        ((congrArg (PeerView.update (p.withStatus .lost)) hquiet.peers).trans hv)
    exact hstart ▸ (hquiet.at _ _).trans (State.raise_frame .peerLost _)
  · exact (State.flag_raise_eq .peerLost .peerLost _).trans (by simp)

end

/-- Settles O46: each row by the entry of its station, and the saturation timer by whether it runs. -/
theorem peerTimers : Obligations.PeerTimers := by
  intro s id hrun aged
  have hquiet (t : State) (ht : t.pins.resetHeld = false) : exec (.quietTimeReached id) t = .next (t.quietTimeReached id) :=
    exec_row (k := State.quietTimeReached id) ht rfl
  have hlost (t : State) (ht : t.pins.resetHeld = false) : exec (.peerLost id) t = .next (t.lostTimeReached id) :=
    exec_row (k := State.lostTimeReached id) ht rfl
  have hsat : exec .saturationTimerExpiry s = .next s.saturationExpiry := exec_row (k := State.saturationExpiry) hrun rfl
  refine ⟨fun hnone => ?_, fun p (hp : s.peers.find id = some p) => ⟨fun hf hq => ?_, fun h => ?_, fun h => ?_, fun h => ?_,
    fun h => ?_, fun hf hq u hu => ?_⟩, fun h => ?_, fun due hdue => ?_⟩
  · have hp : s.peers.find id = none := List.find?_eq_none.mpr fun p hp => by simpa using hnone p hp
    rw [hquiet s hrun, hlost s hrun]
    simp only [State.quietTimeReached, State.lostTimeReached, hp, and_self]
  · exact ⟨_, (hquiet s hrun).trans (congrArg _ (State.quietTimeReached_quiet hp hf hq)), rfl,
      State.agePeer_frame p .quiet (s.reach (p.heardAt + 1000 * s.quietTime))⟩
  · rw [hquiet s hrun, State.quietTimeReached_stays hp h]
  · rw [hlost s hrun, State.lostTimeReached_lost hp h]
  · obtain ⟨hframe, hflag⟩ := State.lostTimeReached_frame hp h
    exact ⟨_, hlost s hrun, hflag, hframe⟩
  · have hne : p.status ≠ .lost := by
      rintro hst
      simp [hst] at h
    have hstays : s.quietTimeReached id = s :=
      State.quietTimeReached_stays hp (h.imp (fun h => by simp [h]) And.right)
    rw [hlost s hrun, State.lostTimeReached_loses hp hne, hstays]
    rfl
  · rw [hquiet s hrun] at hu
    obtain rfl := Host.Outcome.next.inj hu
    have hheld : (s.quietTimeReached id).pins.resetHeld = false := by
      rw [State.quietTimeReached_quiet hp hf hq, (State.agePeer_frame p .quiet _).pins]
      exact hrun
    rw [hlost s hrun, hlost _ hheld, State.lostTimeReached_after hp hf hq]
  · rw [hsat, State.saturationExpiry, h]
  · have hexpiry : s.saturationExpiry = State.claimOnly (ownSaturation false) true
        { s with clock := max s.clock due, peers := { s.peers with saturation := none } } := by
      simp only [State.saturationExpiry, hdue]
      rfl
    exact ⟨_, hsat.trans (congrArg _ hexpiry), rfl, State.claimOnly_frame (ownSaturation false) true
      { s with clock := max s.clock due, peers := { s.peers with saturation := none } }⟩

/-! ### The notice built (R66) -/

/-- The route entry under the centre, while there is a position. -/
def State.placeHere (s : State) : Option RouteEntry :=
  if s.pos.quality = .none then none else s.pos.index.bind (fun i => s.route.entries[i]?)

theorem State.currentSpan_eq (s : State) : s.currentSpan =
    if s.pos.quality = .none then none else s.pos.index.bind (fun i => s.spans[i]?) := by
  unfold State.currentSpan
  cases s.pos.quality <;> cases s.pos.index <;> rfl

/-- The span under the centre is that of the route entry there. -/
theorem State.currentSpan_placed (s : State) : s.currentSpan.map (fun p => (⟨p.seg, p.sign⟩ : RouteEntry)) = s.placeHere := by
  rw [s.currentSpan_eq, State.placeHere]
  split
  · rfl
  · cases s.pos.index with
    | none => rfl
    | some i =>
      simp only [Option.bind_some, s.spans_getElem?, Option.map_map]
      cases s.route.entries[i]? <;> rfl

theorem State.segmentHere_eq (s : State) : s.segmentHere = match s.placeHere with
    | some e => e.seg
    | none => 1023 := by
  rw [← s.currentSpan_placed, State.segmentHere]
  cases s.currentSpan <;> rfl

theorem State.plusOffset_eq (s : State) : s.plusOffset = match s.placeHere with
    | some e => if e.sign = .plus then s.pos.offset else s.map.lengthOf e.seg - s.pos.offset
    | none => 0 := by
  rw [← s.currentSpan_placed, State.plusOffset]
  cases s.currentSpan with
  | none => rfl
  | some p => cases hp : p.sign <;> simp [hp]

theorem State.travelSign_eq (s : State) : s.travelSign = match s.placeHere with
    | some e => if (e.sign = .plus ↔ (s.odo.direction = .forward ↔ s.ctl.orientation = .along)) then .plus else .minus
    | none => .plus := by
  rw [← s.currentSpan_placed, State.travelSign]
  cases s.currentSpan with
  | none => rfl
  | some p =>
    cases hp : p.sign <;> cases hd : s.odo.direction <;> cases ho : s.ctl.orientation <;>
      simp [State.sense, senseOf, hp, hd, ho]

theorem heldIds_eq (l : List Claim) : heldIds l = (l.filter (fun e => decide (e.state = .held))).map (·.seg) := rfl

theorem wantedIds_eq (l : List Claim) : wantedIds l = (l.filter (fun e => decide (e.state = .wanted))).map (·.seg) := by
  unfold wantedIds
  congr 2
  funext e
  unfold Claim.isHeld
  cases e.state <;> rfl

/-! ### The list change report (R73, R115) -/

section
variable {s : State}

theorem State.reportLists_same (hh : heldIds s.claim.list = s.claim.lastHeld) (hw : wantedIds s.claim.list = s.claim.lastWanted) :
    s.reportLists = s := if_pos ⟨hh, hw⟩

theorem State.reportLists_changed (h : heldIds s.claim.list ≠ s.claim.lastHeld ∨ wantedIds s.claim.list ≠ s.claim.lastWanted) :
    s.reportLists = { s with claim := { s.claim with
      lastHeld := heldIds s.claim.list, lastWanted := wantedIds s.claim.list } }.listChange :=
  if_neg fun ⟨hh, hw⟩ => h.elim (· hh) (· hw)

theorem State.listChange_free (hw : s.working = true) (hg : s.sched.guard = none) : s.listChange = s.buildPosition.startGuard := by
  simp [State.listChange, hw, hg]

theorem State.listChange_guarded (hw : s.working = true) (hg : s.sched.guard ≠ none) : s.listChange = s.setPendingNotice true := by
  simp [State.listChange, hw, hg]

theorem State.listChange_idle (hw : s.working = false) : s.listChange = s.setPendingNotice false := by
  simp [State.listChange, hw]

end

/-- What the moves of an event leave to its list change report: scheduler, link and the last reported lists. -/
structure ListsKept (s t : State) : Prop where
  sched : t.sched = s.sched
  link : t.link = s.link
  lastHeld : t.claim.lastHeld = s.claim.lastHeld
  lastWanted : t.claim.lastWanted = s.claim.lastWanted

theorem ListsKept.refl (s : State) : ListsKept s s := ⟨rfl, rfl, rfl, rfl⟩

theorem ListsKept.trans {s t u : State} (h : ListsKept s t) (k : ListsKept t u) : ListsKept s u :=
  ⟨k.sched.trans h.sched, k.link.trans h.link, k.lastHeld.trans h.lastHeld, k.lastWanted.trans h.lastWanted⟩

theorem State.setClaims_listsKept (l : List Claim) (s : State) : ListsKept s (s.setClaims l) := ⟨rfl, rfl, rfl, rfl⟩

theorem State.raiseIf_listsKept (c : Bool) (e : Event) (s : State) : ListsKept s (s.raiseIf c e) := by
  cases c <;> exact ⟨rfl, rfl, rfl, rfl⟩

theorem State.makeRoom_listsKept (s : State) (b : Body) : ListsKept s (s.makeRoom b).1 := by
  unfold State.makeRoom
  split
  · exact .refl s
  · split
    · exact s.setClaims_listsKept _
    · split
      · exact s.setClaims_listsKept _
      · split
        · exact s.setClaims_listsKept _
        · exact .refl s

theorem ClaimMove.listsKept {s t : State} (h : ClaimMove s t) : ListsKept s t := by
  cases h
  case release =>
    unfold State.releaseBehind
    split
    · exact .refl s
    · exact s.setClaims_listsKept _
  case occupy b acc sp h =>
    unfold State.occupyEntry
    dsimp only
    split
    · exact .refl _
    · exact ((acc.1.makeRoom_listsKept b).trans (State.setClaims_listsKept _ _)).trans (State.raiseIf_listsKept _ _ _)
  case faceOff =>
    unfold State.testFaceOff
    split
    · exact ⟨rfl, rfl, rfl, rfl⟩
    · dsimp only
      split
      · split <;> exact ⟨rfl, rfl, rfl, rfl⟩
      · exact ⟨rfl, rfl, rfl, rfl⟩
  case removeFront h =>
    unfold State.removeFront
    split <;> exact ⟨rfl, rfl, rfl, rfl⟩
  case fill e he h => exact s.setClaims_listsKept _
  case promote w h => exact s.setClaims_listsKept _
  case wait => exact ⟨rfl, rfl, rfl, rfl⟩

/-! ### The scheduler's timers (R70 to R74) -/

theorem State.slotInterval_moving {s : State} {slot pattern : Nat} (h : s.pos.motion = .moving) (hp : s.tuning (15 + slot) = pattern) :
    s.slotInterval slot = s.tuning (12 + pattern) := by
  simp [State.slotInterval, h, hp]

section
variable {s : State} {due : Nat} (hdue : s.sched.guard = some due)
include hdue

theorem State.guardExpiry_builds (hst : s.ctl.state = .joining ∨ s.ctl.state = .run) (hp : s.sched.pendingNotice = true) :
    s.guardExpiry = ((s.reach due).setPendingNotice false).buildPosition.startGuard := by
  obtain hst | hst := hst <;> simp [State.guardExpiry, hdue, hst, hp]

theorem State.guardExpiry_leaves (hst : s.ctl.state = .leaving) (hcount : s.sched.leaveCount < 3) :
    s.guardExpiry = (s.reach due).buildLeave.startGuard := by
  simp [State.guardExpiry, hdue, hst, hcount]

theorem State.guardExpiry_stops (h : (s.ctl.state = .joining ∨ s.ctl.state = .run) ∧ s.sched.pendingNotice = false ∨
    s.ctl.state = .leaving ∧ 3 ≤ s.sched.leaveCount ∨ s.ctl.state = .config ∨ s.ctl.state = .offLine) :
    s.guardExpiry = (s.reach due).stopGuard := by
  obtain ⟨hst | hst, hp⟩ | ⟨hst, hcount⟩ | hst | hst := h
  · simp [State.guardExpiry, hdue, hst, hp]
  · simp [State.guardExpiry, hdue, hst, hp]
  · simp [State.guardExpiry, hdue, hst, Nat.not_lt.mpr hcount]
  · simp [State.guardExpiry, hdue, hst]
  · simp [State.guardExpiry, hdue, hst]

end

/-- Settles O45: the notice by its fields, the list change report by the guard, each timer's row by whether it runs. -/
theorem schedulerTimers : Obligations.SchedulerTimers := by
  intro s hrun built place along notice next guardAt
  have hnotice : s.positionNotice = notice := by
    rw [State.positionNotice, s.segmentHere_eq, s.plusOffset_eq, s.travelSign_eq, heldIds_eq, wantedIds_eq]
    rfl
  have hheld : heldIds s.claim.list = notice.held := congrArg PositionNotice.held hnotice
  have hwanted : wantedIds s.claim.list = notice.wanted := congrArg PositionNotice.wanted hnotice
  have hcadence : exec .cadenceExpiry s = .next s.cadenceExpiry := exec_row (k := State.cadenceExpiry) hrun rfl
  have hguard : exec .promptGuardExpiry s = .next s.guardExpiry := exec_row (k := State.guardExpiry) hrun rfl
  have hwindow : exec .coincidenceWindowClose s = .next s.windowClose := exec_row (k := State.windowClose) hrun rfl
  rw [← hheld, ← hwanted]
  refine ⟨fun slot => ⟨fun h => if_pos h, fun h => ⟨fun hp => State.slotInterval_moving h hp,
      fun hp => State.slotInterval_moving h hp, fun hp => State.slotInterval_moving h hp⟩⟩, fun own exam => ?_,
    fun hh hw => State.reportLists_same hh hw, fun hchanged => ?_, fun h => ?_, fun due hdue => ?_, fun h => ?_,
    fun due hdue => ⟨fun hst hpending => ?_, fun hst hcount => ?_, fun h => ?_⟩, fun h => ?_, fun w hw => ?_⟩
  · obtain ⟨u, hmoves, hu⟩ := claimEvent_work own exam s
    have hkept : ListsKept (own s).1 u := hmoves.rel ListsKept.refl ListsKept.trans fun _ _ h => h.listsKept
    exact ⟨u, hu, by rw [hu, u.reportLists_claim.1], hkept.sched, hkept.link, hkept.lastHeld, hkept.lastWanted⟩
  · intro marked
    rw [State.reportLists_changed hchanged]
    refine ⟨fun hst => ⟨fun hfree => ?_, fun hbusy => ?_⟩, fun hst => ?_⟩
    · rw [State.listChange_free (s := marked) (s.working_iff.mpr hst) hfree, ← hnotice]
      rfl
    · exact State.listChange_guarded (s := marked) (s.working_iff.mpr hst) hbusy
    · exact State.listChange_idle (s := marked) (Bool.eq_false_iff.mpr fun hw => hst (s.working_iff.mp hw))
  · rw [hcadence, State.cadenceExpiry, h]
  · rw [hcadence, State.cadenceExpiry, hdue, ← hnotice]
    rfl
  · rw [hguard, State.guardExpiry, h]
  · rw [hguard, State.guardExpiry_builds hdue hst hpending, ← hnotice]
    rfl
  · rw [hguard, State.guardExpiry_leaves hdue hst hcount]
    rfl
  · rw [hguard, State.guardExpiry_stops hdue h]
    rfl
  · rw [hwindow, State.windowClose, h]
  · have hdecided : s.sched.decideWindow = { s.sched with
        window := none,
        nearCount := if w.coincident then (if 4 ≤ s.sched.nearCount + 1 then 0 else s.sched.nearCount + 1) else 0,
        slotIndex := if w.coincident ∧ 4 ≤ s.sched.nearCount + 1 then (s.sched.slotIndex + 1) % 8 else s.sched.slotIndex } := by
      simp only [Scheduler.decideWindow, hw]
      cases w.coincident with
      | false => rfl
      | true => by_cases h4 : 4 ≤ s.sched.nearCount + 1 <;> simp [h4]
    rw [hwindow, State.windowClose, hw]
    exact congrArg (fun c : Scheduler => Host.Outcome.next { s with clock := max s.clock w.closes, sched := c }) hdecided

end Sys2Proof.Machine
end

section
/-! PROOFS. What a report leaves of the flags, and the Bay Table's events (7.1 to 7.5; O30, O44, O48). -/

namespace Sys2Proof.Machine

/-! ### The flags a report may raise -/

/-- The flag is as before. -/
def FlagKept (e : Event) (s t : State) : Prop := t.flag e = s.flag e

theorem FlagKept.refl {e : Event} (s : State) : FlagKept e s s := rfl

theorem FlagKept.trans {e : Event} {s t u : State} (h : FlagKept e s t) (k : FlagKept e t u) : FlagKept e s u := Eq.trans k h

theorem State.raise_flagKept {e f : Event} (h : e ≠ f) (s : State) : FlagKept e s (s.raise f) := by
  rw [FlagKept, State.flag_raise_eq, decide_eq_false h, Bool.or_false]

theorem State.raiseIf_flagKept {e f : Event} (h : e ≠ f) (c : Bool) (s : State) : FlagKept e s (s.raiseIf c f) := by
  cases c
  · exact .refl s
  · exact s.raise_flagKept h

theorem State.port_flagKept {e : Event} {s t : State} (h : t.port = s.port) : FlagKept e s t := by
  rw [FlagKept, State.flag, State.flag, h]

theorem State.makeRoom_port (s : State) (b : Body) : (s.makeRoom b).1.port = s.port := by
  unfold State.makeRoom
  split
  · rfl
  · split
    · rfl
    · split
      · rfl
      · split <;> rfl

/-- What follows an event's own effect raises OCCUPY_CONFLICT and FACE_OFF alone. -/
theorem ClaimMove.flagKept {e : Event} (h1 : e ≠ .occupyConflict) (h2 : e ≠ .faceOff) {s t : State} (h : ClaimMove s t) :
    FlagKept e s t := by
  cases h
  case release =>
    unfold State.releaseBehind
    split <;> exact .refl s
  case occupy b acc sp h =>
    unfold State.occupyEntry
    dsimp only
    split
    · exact .refl _
    · exact (State.port_flagKept (acc.1.makeRoom_port b)).trans (State.raiseIf_flagKept h1 _ _)
  case faceOff =>
    have hraised (u : State) (peer : Nat) (hu : u.port = s.port) : FlagKept e s (u.raiseFaceOff peer) :=
      (State.port_flagKept hu).trans (u.raise_flagKept h2)
    unfold State.testFaceOff
    split
    · exact .refl s
    · dsimp only
      split
      · split
        · exact .refl s
        · exact hraised _ _ rfl
      · exact hraised _ _ rfl
  case removeFront h =>
    unfold State.removeFront
    split <;> exact .refl s
  case fill e he h => exact .refl s
  case promote w h => exact .refl s
  case wait => exact .refl s

theorem State.listChange_port (s : State) : s.listChange.port = s.port := by
  unfold State.listChange
  split
  · split <;> rfl
  · rfl

theorem State.reportLists_port (s : State) : s.reportLists.port = s.port := by
  unfold State.reportLists
  split
  · rfl
  · exact State.listChange_port _

theorem claimEvent_flagKept {e : Event} (h1 : e ≠ .occupyConflict) (h2 : e ≠ .faceOff) (own : State → State × List Claim)
    (exam : Bool) (s : State) : FlagKept e (own s).1 (claimEvent own exam s).1 :=
  claimEvent_rel FlagKept.refl FlagKept.trans (fun _ _ h => h.flagKept h1 h2) (fun s => State.port_flagKept s.reportLists_port)
    own exam s

theorem State.trim_flagKept {e : Event} (h1 : e ≠ .occupyConflict) (h2 : e ≠ .faceOff) (s : State) : FlagKept e s s.trim :=
  s.trim_moves.rel FlagKept.refl FlagKept.trans fun _ _ h => h.flagKept h1 h2

theorem State.guided_flagKept {e : Event} (h : e ≠ .permitDrop) (k : State → State) (s : State) : FlagKept e (k s) (s.guided k) := by
  have hset (g : Guidance) (d : Drive) (u : State) (hu : u.port = (k s).port) : FlagKept e (k s) (u.setGuide g d) :=
    (State.port_flagKept hu).trans (State.raiseIf_flagKept h _ _)
  unfold State.guided
  dsimp only
  split
  · exact hset _ _ _ rfl
  · split <;> exact hset _ _ _ rfl

theorem State.reportBays_flagKept {e : Event} (h1 : e ≠ .occupyConflict) (h2 : e ≠ .faceOff) (h3 : e ≠ .permitDrop) (s : State) :
    FlagKept e s s.reportBays :=
  (claimEvent_flagKept h1 h2 ownNothing true s).trans (State.guided_flagKept h3 _ s)

/-! ### BAY_HOLD (R129) -/

/-- A bay of segment g leaves OPEN between the tables. -/
def State.Closes (s : State) (table : BayTable) (g : Nat) : Prop := g ≠ 1023 ∧ ∃ (k : Nat) (a b : Bay),
  s.bays.entries[k]? = some a ∧ table.entries[k]? = some b ∧ a.state = .opened ∧ b.state ≠ .opened ∧ b.segment = g

/-- The segment is HELD, or a route entry of it lies under the body. -/
def State.Taken (s : State) (g : Nat) : Prop := (∃ e ∈ s.claim.list, e.state = .held ∧ e.seg = g) ∨
  ∃ b p, s.body = some b ∧ p ∈ s.spans ∧ p.seg = g ∧ p.start < b.front ∧ b.rear < p.stop

theorem mem_closedSegments {old new : List Bay} {g : Nat} : g ∈ closedSegments old new ↔
    ∃ (k : Nat) (a b : Bay), old[k]? = some a ∧ new[k]? = some b ∧ a.state = .opened ∧ b.state ≠ .opened ∧ b.segment = g := by
  simp only [closedSegments, List.mem_map, List.mem_filter, Prod.exists, Bool.and_eq_true, beq_iff_eq, bne_iff_ne]
  constructor
  · rintro ⟨a, b, ⟨hab, hopen, hclosed⟩, hg⟩
    obtain ⟨k, hk⟩ := List.mem_iff_getElem?.mp hab
    obtain ⟨ha, hb⟩ := List.getElem?_zip_eq_some.mp hk
    exact ⟨k, a, b, ha, hb, hopen, hclosed, hg⟩
  · rintro ⟨k, a, b, ha, hb, hopen, hclosed, hg⟩
    exact ⟨a, b, ⟨List.mem_iff_getElem?.mpr ⟨k, List.getElem?_zip_eq_some.mpr ⟨ha, hb⟩⟩, hopen, hclosed⟩, hg⟩

theorem State.takenOrUnder_iff (s : State) (g : Nat) : s.takenOrUnder g = true ↔ g ≠ 1023 ∧ s.Taken g := by
  have hheld : (heldIds s.claim.list).contains g = true ↔ ∃ e ∈ s.claim.list, e.state = .held ∧ e.seg = g := by
    rw [List.contains_iff_mem, mem_heldIds]
    simp only [Claim.isHeld_iff]
  have hunder : (match s.body with
      | some b => s.spans.any (fun p => p.seg == g && b.on p.start p.stop)
      | none => false) = true ↔
      ∃ b p, s.body = some b ∧ p ∈ s.spans ∧ p.seg = g ∧ p.start < b.front ∧ b.rear < p.stop := by
    cases s.body with
    | none => simp
    | some b => simp [Body.on]
  unfold State.takenOrUnder State.Taken
  rw [Bool.and_eq_true, Bool.or_eq_true]
  exact and_congr bne_iff_ne (or_congr hheld hunder)

/-- Whether an event of the Bay Table raises BAY_HOLD. -/
theorem State.holds_bay_iff (s : State) (t : BayTable) :
    (closedSegments s.bays.entries t.entries).any s.takenOrUnder = true ↔ ∃ g, s.Closes t g ∧ s.Taken g := by
  rw [List.any_eq_true]
  refine exists_congr fun g => ?_
  rw [mem_closedSegments, s.takenOrUnder_iff, State.Closes]
  tauto

/-- An event of the Bay Table: the new table, with BAY_HOLD where a taken bay leaves OPEN, and the report of changed
states (R128, R129). -/
theorem State.bayEvent_spec (t : BayTable) (s : State) : ∃ v : State, v = { s with bays := t, port := v.port } ∧
    { v.port with flags := s.port.flags } = s.port ∧
    (∀ e, v.flag e = true ↔ s.flag e = true ∨ e = .bayHold ∧ ∃ g, s.Closes t g ∧ s.Taken g) ∧
    s.bayEvent t = if t.entries.map (·.state) = s.bays.entries.map (·.state) then v else v.reportBays := by
  refine ⟨State.raiseIf ((closedSegments s.bays.entries t.entries).any s.takenOrUnder) .bayHold { s with bays := t },
    State.raiseIf_eq _ _ _, State.raiseIf_port_flags _ _ { s with bays := t }, fun e => ?_, rfl⟩
  rw [State.flag_raiseIf, Bool.or_eq_true, Bool.and_eq_true, decide_eq_true_eq, s.holds_bay_iff, and_comm]
  rfl

theorem State.bayEvent_frame (t : BayTable) (s : State) : ReportFrame { s with bays := t } (s.bayEvent t) := by
  unfold State.bayEvent
  dsimp only
  split
  · exact State.raiseIf_frame _ _ _
  · exact (State.raiseIf_frame _ _ _).trans (State.reportBays_frame _)

theorem State.bayEvent_bayHold (t : BayTable) (s : State) :
    (s.bayEvent t).flag .bayHold = true ↔ s.flag .bayHold = true ∨ ∃ g, s.Closes t g ∧ s.Taken g := by
  obtain ⟨v, -, -, hflag, hevent⟩ := s.bayEvent_spec t
  have hv := hflag .bayHold
  rw [hevent]
  split
  · simpa using hv
  · have hkept : v.reportBays.flag .bayHold = v.flag .bayHold :=
      v.reportBays_flagKept (e := .bayHold) nofun nofun nofun
    rw [hkept]
    simpa using hv

/-- Where no state has changed no bay leaves OPEN. -/
theorem State.bayEvent_same {t : BayTable} {s : State} (h : t.entries.map (·.state) = s.bays.entries.map (·.state)) :
    s.bayEvent t = { s with bays := t } := by
  have hnone : (closedSegments s.bays.entries t.entries).any s.takenOrUnder = false := by
    rw [Bool.eq_false_iff, ne_eq, s.holds_bay_iff]
    rintro ⟨g, ⟨-, k, a, b, ha, hb, hopen, hclosed, -⟩, -⟩
    have hk := congrArg (·[k]?) h
    simp only [List.getElem?_map, ha, hb, Option.map_some, Option.some.injEq] at hk
    exact hclosed (hk.trans hopen)
  unfold State.bayEvent
  dsimp only
  rw [if_pos h, hnone]
  rfl

theorem State.bayEvent_current {t : BayTable} {s : State} (h : t.entries.map (·.state) ≠ s.bays.entries.map (·.state)) :
    (s.bayEvent t).guide = (s.bayEvent t).guidance := by
  unfold State.bayEvent
  dsimp only
  rw [if_neg h]
  exact State.guided_current _ _

/-! ### The tables (R122 to R127) -/

theorem mapIdx_self {α : Type} {f : Nat → α → α} {l : List α} (h : ∀ i a, f i a = a) : l.mapIdx f = l := by
  refine List.ext_getElem? fun i => ?_
  rw [List.getElem?_mapIdx]
  cases l[i]? <;> simp [h]

theorem mapIdx_map {α β : Type} (f : α → β) (l : List α) : l.mapIdx (fun _ a => f a) = l.map f := by
  refine List.ext_getElem? fun i => ?_
  rw [List.getElem?_mapIdx, List.getElem?_map]

/-- A change of one crane, bay by bay, as a change of every bay. -/
theorem BayTable.onCrane_bays (id : Nat) (f : Nat → Bay → Bay) (t : BayTable) : t.onCrane id (Crane.mapBays f) =
    { t with cranes := t.cranes.map (fun c => { c with bays := c.bays.mapIdx (fun i b => if c.id = id then f i b else b) }) } := by
  unfold BayTable.onCrane
  congr 1
  refine List.map_congr_left fun c _ => ?_
  by_cases h : c.id = id
  · simp [h, Crane.mapBays]
  · simp [h, mapIdx_self]

/-- The bays of the cranes, changed and changed again. -/
theorem map_bays_bays (f g : Crane → Nat → Bay → Bay) (hid : ∀ (c : Crane) bays, g { c with bays := bays } = g c) (l : List Crane) :
    (l.map (fun c => { c with bays := c.bays.mapIdx (f c) })).map (fun c => { c with bays := c.bays.mapIdx (g c) }) =
      l.map (fun c => { c with bays := c.bays.mapIdx (fun i b => g c i (f c i b)) }) := by
  rw [List.map_map]
  refine List.map_congr_left fun c _ => ?_
  simp only [Function.comp_apply, hid, List.mapIdx_mapIdx]
  rfl

/-- An entry with its override after BAY CONTROL (R125). -/
def Bay.overridden (crane : Nat) (ov : List Nat) (c : Crane) (i : Nat) (b : Bay) : Bay :=
  { b with overrideOpen := if c.id = crane ∧ ov[i]? = some 0 then false
                           else if c.id = crane ∧ ov[i]? = some 1 then true else b.overrideOpen }

/-- An entry after the snoop switch of BAY CONTROL, by the former switch (R126, R127). -/
def Bay.switched (was : Bool) (snoop crane : Nat) (c : Crane) (b : Bay) : Bay :=
  if snoop = 1 then (if was then b else { b with state := .unknown, source := .snoop })
  else if was ∨ c.id = crane then { b with state := if b.overrideOpen then .opened else .shut, source := .overridden } else b

theorem Bay.withOverride_eq (crane : Nat) (ov : List Nat) (c : Crane) (i : Nat) (b : Bay) :
    (if c.id = crane then b.withOverride ov[i]? else b) = b.overridden crane ov c i := by
  unfold Bay.overridden Bay.withOverride
  by_cases h : c.id = crane
  · rcases ov[i]? with _ | _ | _ | v <;> simp [h]
  · simp [h]

theorem BayTable.setOverrides_eq (crane : Nat) (ov : List Nat) (t : BayTable) : t.setOverrides crane ov =
    { t with cranes := t.cranes.map (fun c => { c with bays := c.bays.mapIdx (fun i b => b.overridden crane ov c i) }) } := by
  rw [BayTable.setOverrides, BayTable.onCrane_bays]
  simp only [Bay.withOverride_eq]

theorem BayTable.setSnoop_eq (crane snoop : Nat) (t : BayTable) : t.setSnoop crane (snoop == 1) =
    { t with snoop := decide (snoop = 1),
             cranes := t.cranes.map (fun c => { c with bays := c.bays.mapIdx (fun _ b => b.switched t.snoop snoop crane c) }) } := by
  obtain ⟨cranes, was, notices, unlisted⟩ := t
  unfold BayTable.setSnoop
  by_cases h : snoop = 1
  · subst h
    cases was
    · simp [BayTable.onEvery, Crane.mapBays, Bay.toUnknown, Bay.switched]
    · simp [Bay.switched, mapIdx_self]
  · have hoff : (snoop == 1) = false := beq_eq_false_iff_ne.mpr h
    cases was
    · simp [hoff, h, BayTable.onCrane_bays, Bay.toOverride, Bay.switched]
    · simp [hoff, h, BayTable.onEvery, Crane.mapBays, Bay.toOverride, Bay.switched]

/-- BAY CONTROL's table: the overrides first, then the switch. -/
theorem BayTable.control_eq (crane snoop : Nat) (ov : List Nat) (t : BayTable) :
    (t.setOverrides crane ov).setSnoop crane (snoop == 1) = { t with
      snoop := decide (snoop = 1),
      cranes := t.cranes.map (fun c => { c with
        bays := c.bays.mapIdx (fun i b => (b.overridden crane ov c i).switched t.snoop snoop crane c) }) } := by
  rw [BayTable.setSnoop_eq, BayTable.setOverrides_eq]
  exact congrArg (fun l => ({ t with snoop := decide (snoop = 1), cranes := l } : BayTable))
    (map_bays_bays (fun c i b => b.overridden crane ov c i) (fun c _ b => b.switched t.snoop snoop crane c) (fun _ _ => rfl) _)

theorem State.bayValuesOk_iff (s : State) (snoop crane : Nat) (ov : List Nat) : s.bayValuesOk snoop crane ov = true ↔
    snoop ≤ 1 ∧ (crane = 0 ∨ crane ∈ s.map.cranes) ∧ ∀ v ∈ ov, v ≤ 2 := by
  simp [State.bayValuesOk, and_assoc]

/-! ### The rows -/

/-- Settles O30: the values' test, the table by its two steps, and the Bay Table's event. -/
theorem bayControl : Obligations.BayControl := by
  refine ⟨fun s => rfl, fun s snoop crane o0 o1 o2 o3 hport hst => ?_⟩
  intro closes taken ov ok held overridden switched table
  have htaken := exec_taken (.bayControl snoop crane o0 o1 o2 o3) .bayControl _ s hport rfl ((StationState.works_iff _).mpr hst)
  rw [Cmd.run, ownBayControl_eq snoop crane (crane :: ov) ov s rfl rfl, BayTable.control_eq] at htaken
  rw [htaken]
  refine ⟨fun hbad => ?_, fun hgood => ?_⟩
  · rw [if_neg fun h => hbad ((s.bayValuesOk_iff snoop crane ov).mp h)]
    rfl
  · rw [if_pos ((s.bayValuesOk_iff snoop crane ov).mpr hgood)]
    exact ⟨s.bayEvent table, rfl, s.bayEvent_frame table, s.bayEvent_bayHold table, s.bayEvent_spec table⟩

theorem BayTable.any_crane_iff (t : BayTable) (id : Nat) : t.cranes.any (·.id == id) = true ↔ ∃ c ∈ t.cranes, c.id = id := by
  simp

theorem State.frameParse_notice {s : State} {f : List Byte} {rest : List (List Byte)} {n : Notice}
    (hc : s.ctl.state ≠ .config) (hq : s.link.queue = f :: rest) (hn : readNotice f = some n) :
    s.frameParse = State.handNotice n { s with link := { s.link with queue := rest } } := by
  simp only [State.frameParse, if_neg hc, hq, hn]

/-- Settles O44: counted alone, or the crane's entries written and the Bay Table's event. -/
theorem craneNoticeParse : Obligations.CraneNoticeParse := by
  intro s f rest id states hrun hc hq hn s0 closes taken notices table
  have hrow : exec .frameParse s = .next (s0.craneNotice id states) :=
    (exec_row (k := State.frameParse) hrun rfl).trans (congrArg _ (State.frameParse_notice hc hq hn))
  rw [hrow]
  refine ⟨fun hnone => ?_, fun hlisted => ?_⟩
  · have hno : ¬ ({ s.bays with notices := notices } : BayTable).cranes.any (·.id == id) = true := fun h => by
      obtain ⟨c, hc, hid⟩ := (BayTable.any_crane_iff _ id).mp h
      exact hnone c hc hid
    exact congrArg _ (if_neg hno)
  · have htable : BayTable.onCrane id (fun c =>
        let c' := { c with heardAt := some s.clock, silent := false }
        if s.bays.snoop then c'.mapBays (fun i b => { b with state := states.getD i b.state, source := .snoop }) else c')
        { s.bays with notices := notices } = table := by
      refine congrArg (fun l => ({ s.bays with notices := notices, cranes := l } : BayTable)) (List.map_congr_left fun c _ => ?_)
      cases s.bays.snoop <;> rfl
    have hevent : s0.craneNotice id states = s0.bayEvent table :=
      (if_pos ((BayTable.any_crane_iff { s.bays with notices := notices } id).mpr hlisted)).trans
        (congrArg (fun t => s0.bayEvent t) htable)
    rw [hevent]
    exact ⟨_, rfl, s0.bayEvent_frame table, s0.bayEvent_bayHold table, s0.bayEvent_spec table, fun h => State.bayEvent_same h,
      fun h => State.bayEvent_current h⟩

/-- Settles O48: nothing due, or the silence marked with the crane's entries, and the Bay Table's event. -/
theorem craneSilence : Obligations.CraneSilence := by
  intro s id hrun closes taken
  have hrow : exec (.craneSilenceExpiry id) s = .next (s.craneSilenceExpiry id) :=
    exec_row (k := State.craneSilenceExpiry id) hrun rfl
  rw [hrow]
  refine ⟨fun h => ?_, fun c hc hfind => ⟨fun h => ?_, fun heard hheard hsilent => ?_⟩⟩
  · unfold State.craneSilenceExpiry
    obtain h | h := h
    · rw [if_pos h]
    · rw [List.find?_eq_none.mpr fun c hc => by simpa using h c hc]
      split <;> rfl
  · simp only [State.craneSilenceExpiry, if_neg hc, hfind]
    obtain h | h := h
    · rw [h]
    · rw [h]
      cases c.heardAt <;> rfl
  · intro table
    have htable : BayTable.onCrane id (fun c =>
        let c' := { c with silent := true }
        if s.bays.snoop then c'.mapBays (fun _ b => if b.state = .unknown then b else b.toUnknown) else c') s.bays = table := by
      refine congrArg (fun l => ({ s.bays with cranes := l } : BayTable)) (List.map_congr_left fun c _ => ?_)
      cases s.bays.snoop with
      | false => rfl
      | true =>
        simp only [if_true, Crane.mapBays, mapIdx_map]
        rfl
    have hevent : s.craneSilenceExpiry id = (s.reach (heard + 1000 * s.craneSilence)).bayEvent table := by
      simp only [State.craneSilenceExpiry, if_neg hc, hfind, hheard, hsilent]
      exact congrArg (fun t => (s.reach (heard + 1000 * s.craneSilence)).bayEvent t) htable
    rw [hevent]
    refine ⟨_, rfl, State.bayEvent_frame table (s.reach _), State.bayEvent_bayHold table (s.reach _),
      State.bayEvent_spec table (s.reach _), fun hoff => ?_⟩
    have hsame : table.entries.map (·.state) = s.bays.entries.map (·.state) := by
      have hbays : table.entries = s.bays.entries := by
        simp only [table, hoff, BayTable.entries, List.flatMap_map]
        refine List.flatMap_congr fun c _ => ?_
        split <;> rfl
      rw [hbays]
    exact (congrArg (fun u : State => u.port.flags) (State.bayEvent_same (s := s.reach _) hsame) :)

end Sys2Proof.Machine
end

section
/-! PROOFS. What a position report does beside the Claim Unit's event: the arrival test, the releases and the trim (3.4, 3.5), and the
rows of race, direction and still control (2.1, 2.2, 2.5; O31, O35, O36). -/

namespace Sys2Proof.Machine

/-! ### Taking entries off the route's front (R26, R54, R55) -/

/-- A claim entry whose route has lost its first k entries, of length d. -/
def Claim.shiftBy (d : Int) (k : Nat) (e : Claim) : Claim :=
  { e with spanStart := e.spanStart - d,
           tie := match e.tie with
             | .route i => .route (i - k)
             | .detached => .detached }

/-- The state without its first k route entries. -/
def State.dropFront (k : Nat) (s : State) : State :=
  { s with
    route := { s.route with entries := s.route.entries.drop k },
    pos := { s.pos with index := s.pos.index.map (· - k) },
    claim := { s.claim with list := s.claim.list.map (Claim.shiftBy (startOf s.map s.route.entries k) k) } }

theorem startOf_zero (m : MapStore) (l : List RouteEntry) : startOf m l 0 = 0 := rfl

theorem startOf_succ (m : MapStore) (e : RouteEntry) (l : List RouteEntry) (k : Nat) :
    startOf m (e :: l) (k + 1) = m.lengthOf e.seg + startOf m l k := by
  simp [startOf]

theorem Claim.shiftBy_zero (e : Claim) : e.shiftBy 0 0 = e := by
  obtain ⟨seg, state, tie, start, adv, wait⟩ := e
  cases tie <;> simp [Claim.shiftBy]

theorem Claim.shiftBy_shift (d d' : Int) (k : Nat) (e : Claim) : (e.shift d).shiftBy d' k = e.shiftBy (d + d') (k + 1) := by
  obtain ⟨seg, state, tie, start, adv, wait⟩ := e
  cases tie <;> simp [Claim.shiftBy, Claim.shift, Int.sub_sub, Nat.sub_sub, Nat.add_comm]

theorem State.dropFront_zero (s : State) : s.dropFront 0 = s := by
  have hindex : s.pos.index.map (· - 0) = s.pos.index := by cases s.pos.index <;> rfl
  have hlist : s.claim.list.map (Claim.shiftBy (startOf s.map s.route.entries 0) 0) = s.claim.list := by
    rw [startOf_zero]
    exact (List.map_congr_left fun e _ => e.shiftBy_zero).trans (List.map_id _)
  rw [State.dropFront, hindex, hlist, List.drop_zero]

theorem State.removeFront_cons {s : State} {e : RouteEntry} {rest : List RouteEntry} (h : s.route.entries = e :: rest) :
    s.removeFront = { s with
      route := { s.route with entries := rest },
      pos := { s.pos with index := s.pos.index.map (· - 1) },
      claim := { s.claim with list := s.claim.list.map (Claim.shift (s.map.lengthOf e.seg)) } } := by
  simp only [State.removeFront, h]

theorem State.dropFront_removeFront {s : State} {e : RouteEntry} {rest : List RouteEntry} (k : Nat)
    (h : s.route.entries = e :: rest) : s.removeFront.dropFront k = s.dropFront (k + 1) := by
  have hindex : (s.pos.index.map (· - 1)).map (· - k) = s.pos.index.map (· - (k + 1)) := by
    cases s.pos.index <;> simp [Nat.sub_sub, Nat.add_comm]
  have hlist : (s.claim.list.map (Claim.shift (s.map.lengthOf e.seg))).map (Claim.shiftBy (startOf s.map rest k) k) =
      s.claim.list.map (Claim.shiftBy (startOf s.map (e :: rest) (k + 1)) (k + 1)) := by
    rw [List.map_map, startOf_succ]
    exact List.map_congr_left fun c _ => c.shiftBy_shift _ _ _
  rw [State.removeFront_cons h, State.dropFront, State.dropFront, h, ← hlist, ← hindex]
  rfl

/-- The body moves with the route distances when the first entry, behind the current one, goes. -/
theorem State.removeFront_body {s : State} {e : RouteEntry} {rest : List RouteEntry} {i : Nat}
    (h : s.route.entries = e :: rest) (hi : s.pos.index = some (i + 1)) : s.removeFront.body =
      s.body.map (fun b => { front := b.front - s.map.lengthOf e.seg, rear := b.rear - s.map.lengthOf e.seg }) := by
  have hcentre : s.removeFront.centre = s.centre.map (· - (s.map.lengthOf e.seg : Int)) := by
    rw [State.removeFront_cons h, State.centre, State.centre, State.currentSpan_eq, State.currentSpan_eq]
    split
    · rfl
    · rw [hi]
      simp only [Option.map_some, Option.bind_some, Nat.add_sub_cancel, State.spans_getElem?, h, List.getElem?_cons_succ,
        startOf_succ, Option.map_map]
      cases rest[i]? with
      | none => rfl
      | some x => simp only [Option.map_some, Function.comp_apply, Option.some.injEq]; omega
  have hhalf : s.removeFront.halfLength = s.halfLength := by rw [State.removeFront_cons h]; rfl
  rw [State.body, State.body, hcentre, hhalf]
  cases s.centre with
  | none => rfl
  | some c => simp only [Option.map_some, Option.some.injEq, Body.mk.injEq]; omega

theorem State.indexPastFront_iff (s : State) : s.indexPastFront = true ↔ ∃ i, s.pos.index = some (i + 1) := by
  unfold State.indexPastFront
  cases s.pos.index with
  | none => simp
  | some i => cases i <;> simp

theorem State.trimsFront_iff (s : State) : s.trimsFront = true ↔ ∃ e rest b i, s.route.entries = e :: rest ∧ s.body = some b ∧
    s.pos.index = some (i + 1) ∧ s.map.lengthOf e.seg + s.releaseMargin < b.rear ∧ ∀ c ∈ s.claim.list, c.seg ≠ e.seg := by
  unfold State.trimsFront
  cases s.route.entries with
  | nil => simp
  | cons e rest =>
    cases s.body with
    | none => simp
    | some b =>
      simp only [Bool.and_eq_true, s.indexPastFront_iff, decide_eq_true_eq, Bool.not_eq_true', List.any_eq_false, beq_iff_eq,
        List.cons.injEq, Option.some.injEq]
      constructor
      · rintro ⟨⟨⟨i, hi⟩, hrear⟩, hfree⟩
        exact ⟨e, rest, b, i, ⟨rfl, rfl⟩, rfl, hi, hrear, hfree⟩
      · rintro ⟨_, _, _, i, ⟨rfl, rfl⟩, rfl, hi, hrear, hfree⟩
        exact ⟨⟨⟨i, hi⟩, hrear⟩, hfree⟩

theorem State.trim_nobody (s : State) (h : s.body = none) : s.trim = s := by
  have hstop : s.trimsFront = false := Bool.eq_false_iff.mpr fun htrim => by
    obtain ⟨e, rest, b, i, -, hb, -⟩ := s.trimsFront_iff.mp htrim
    exact nomatch h.symm.trans hb
  unfold State.trim
  cases s.route.entries.length with
  | zero => rfl
  | succ n => rw [trimRepeat, if_neg (by simp [hstop])]

/-- The trim takes the first entries off, each passed by more than the release margin and with no claim, up to the first
that is not so (R55). -/
theorem trimRepeat_spec (n : Nat) (s : State) (b : Body) (i : Nat) (hn : s.route.entries.length ≤ n) (hb : s.body = some b)
    (hi : s.pos.index = some i) : ∃ k ≤ i, trimRepeat n s = s.dropFront k ∧
      (∀ j e, j < k → s.route.entries[j]? = some e →
        startOf s.map s.route.entries (j + 1) + s.releaseMargin < b.rear ∧ ∀ c ∈ s.claim.list, c.seg ≠ e.seg) ∧
      (∀ e, s.route.entries[k]? = some e →
        k = i ∨ b.rear ≤ startOf s.map s.route.entries (k + 1) + s.releaseMargin ∨ ∃ c ∈ s.claim.list, c.seg = e.seg) := by
  induction n generalizing s b i with
  | zero =>
    have hnil : s.route.entries = [] := List.eq_nil_of_length_eq_zero (Nat.le_zero.mp hn)
    exact ⟨0, Nat.zero_le _, s.dropFront_zero.symm, fun j e hj => absurd hj (Nat.not_lt_zero j), fun e he => by simp [hnil] at he⟩
  | succ n ih =>
    by_cases htrim : s.trimsFront = true
    · obtain ⟨e, rest, b', i', hentries, hb', hi', hrear, hfree⟩ := s.trimsFront_iff.mp htrim
      obtain rfl := Option.some.inj (hb.symm.trans hb')
      obtain rfl := Option.some.inj (hi.symm.trans hi')
      have hremoved := State.removeFront_cons hentries
      have hbody := State.removeFront_body hentries hi
      rw [hb, Option.map_some] at hbody
      have hlen : s.removeFront.route.entries.length ≤ n := by
        rw [hremoved]
        rw [hentries] at hn
        exact Nat.le_of_succ_le_succ hn
      have hindex : s.removeFront.pos.index = some i' := by rw [hremoved, hi]; rfl
      obtain ⟨k, hk, hdrop, hgone, hstays⟩ := ih _ _ _ hlen hbody hindex
      have hroute : s.removeFront.route.entries = rest := by rw [hremoved]
      have hmap : s.removeFront.map = s.map := by rw [hremoved]
      have hmargin : s.removeFront.releaseMargin = s.releaseMargin := by rw [hremoved]; rfl
      have hsegs : ∀ g, (∃ c ∈ s.removeFront.claim.list, c.seg = g) ↔ ∃ c ∈ s.claim.list, c.seg = g := fun g => by
        rw [hremoved]
        simp [Claim.shift]
      rw [hroute, hmap, hmargin] at hgone hstays
      dsimp only at hgone hstays
      refine ⟨k + 1, Nat.succ_le_succ hk, ?_, fun j x hj hx => ?_, fun x hx => ?_⟩
      · rw [trimRepeat, if_pos htrim, hdrop, State.dropFront_removeFront k hentries]
      · rw [hentries] at hx ⊢
        cases j with
        | zero =>
          obtain rfl : e = x := Option.some.inj hx
          rw [startOf_succ, startOf_zero]
          exact ⟨by omega, hfree⟩
        | succ j =>
          obtain ⟨hpast, hnone⟩ := hgone j x (Nat.lt_of_succ_lt_succ hj) hx
          rw [startOf_succ]
          exact ⟨by omega, fun c hc hcx => by
            obtain ⟨c', hc', hcx'⟩ := (hsegs x.seg).mpr ⟨c, hc, hcx⟩
            exact hnone c' hc' hcx'⟩
      · rw [hentries] at hx ⊢
        rw [startOf_succ]
        refine (hstays x hx).imp (fun h => by omega) (Or.imp (fun h => by omega) (hsegs x.seg).mp)
    · refine ⟨0, Nat.zero_le _, ?_, fun j e hj => absurd hj (Nat.not_lt_zero j), fun e he => ?_⟩
      · rw [trimRepeat, if_neg htrim, s.dropFront_zero]
      · obtain ⟨rest, hentries⟩ : ∃ rest, s.route.entries = e :: rest := by
          cases hl : s.route.entries with
          | nil => simp [hl] at he
          | cons x rest =>
            rw [hl] at he
            exact ⟨rest, by rw [Option.some.inj he]⟩
        rw [hentries, startOf_succ, startOf_zero, Int.add_zero]
        by_contra hnone
        simp only [not_or, not_exists, not_and, Int.not_le] at hnone
        obtain ⟨hindex, hrear, hfree⟩ := hnone
        cases i with
        | zero => exact hindex rfl
        | succ i => exact htrim (s.trimsFront_iff.mpr ⟨e, rest, b, i, hentries, hb, hi, hrear, hfree⟩)

theorem State.trim_drops (s : State) : ∃ k ≤ s.pos.index.getD 0, s.trim = s.dropFront k := by
  cases hb : s.body with
  | none => exact ⟨0, Nat.zero_le _, (s.trim_nobody hb).trans s.dropFront_zero.symm⟩
  | some b =>
    cases hi : s.pos.index with
    | none => exact absurd (s.body_none (.inr hi)) (by simp [hb])
    | some i =>
      obtain ⟨k, hk, hdrop, -, -⟩ := trimRepeat_spec _ s b i (Nat.le_refl _) hb hi
      exact ⟨k, hk, hdrop⟩

theorem State.routeRelease_removes {s : State} {g : Nat} {e : RouteEntry} {rest : List RouteEntry} {i : Nat}
    (h : s.route.entries = e :: rest) (hg : e.seg = g) (hi : s.pos.index = some (i + 1)) : s.routeRelease g = s.removeFront := by
  simp only [State.routeRelease, h, if_pos (And.intro hg (s.indexPastFront_iff.mpr ⟨i, hi⟩))]

theorem State.routeRelease_stays {s : State} {g : Nat} {e : RouteEntry} {rest : List RouteEntry} (h : s.route.entries = e :: rest)
    (hno : e.seg ≠ g ∨ s.pos.index = none ∨ s.pos.index = some 0) : s.routeRelease g = s := by
  have : ¬ (e.seg = g ∧ s.indexPastFront = true) := by
    rintro ⟨hg, hpast⟩
    obtain ⟨i, hi⟩ := s.indexPastFront_iff.mp hpast
    obtain hno | hno | hno := hno
    · exact hno hg
    · exact nomatch hno.symm.trans hi
    · exact absurd (Option.some.inj (hno.symm.trans hi)) (Nat.succ_ne_zero i).symm
  simp only [State.routeRelease, h, if_neg this]

/-! ### The arrival test of a report (R56) -/

/-- What follows an event's own effect leaves the arrival flag. -/
theorem ClaimMove.armed {s t : State} (h : ClaimMove s t) : t.route.armed = s.route.armed := by
  have hraise (c : Bool) (e : Event) (u : State) : (u.raiseIf c e).route.armed = u.route.armed := by cases c <;> rfl
  cases h
  case release =>
    unfold State.releaseBehind
    split <;> rfl
  case occupy b acc sp h =>
    have hroom : (acc.1.makeRoom b).1.route.armed = acc.1.route.armed := by
      unfold State.makeRoom
      split
      · rfl
      · split
        · rfl
        · split
          · rfl
          · split <;> rfl
    unfold State.occupyEntry
    dsimp only
    split
    · rfl
    · exact (hraise _ _ _).trans hroom
  case faceOff =>
    unfold State.testFaceOff
    split
    · rfl
    · dsimp only
      split
      · split <;> rfl
      · rfl
  case removeFront h =>
    unfold State.removeFront
    split <;> rfl
  case fill e he h => rfl
  case promote w h => rfl
  case wait => rfl

theorem State.listChange_route (s : State) : s.listChange.route = s.route := by
  unfold State.listChange
  split
  · split <;> rfl
  · rfl

theorem State.reportLists_armed (s : State) : s.reportLists.route.armed = s.route.armed := by
  unfold State.reportLists
  split
  · rfl
  · rw [State.listChange_route]

theorem claimEvent_armed (own : State → State × List Claim) (exam : Bool) (s : State) :
    (claimEvent own exam s).1.route.armed = (own s).1.route.armed :=
  claimEvent_rel (R := fun s t => t.route.armed = s.route.armed) (fun _ => rfl) (fun h k => k.trans h)
    (fun _ _ h => h.armed) State.reportLists_armed own exam s

theorem State.trim_armed (s : State) : s.trim.route.armed = s.route.armed :=
  s.trim_moves.rel (R := fun s t => t.route.armed = s.route.armed) (fun _ => rfl) (fun h k => k.trans h) fun _ _ h => h.armed

theorem State.guided_route (k : State → State) (s : State) : (s.guided k).route = (k s).route := by
  have hset (g : Guidance) (d : Drive) (u : State) : (u.setGuide g d).route = u.route := by
    unfold State.setGuide
    cases d.fell <;> rfl
  unfold State.guided
  dsimp only
  split
  · exact hset _ _ _
  · split <;> exact hset _ _ _

/-- The arrival test of a report stands after all that follows it. -/
theorem ArrivalTest.of_kept {s t u : State} (h : ArrivalTest s t) (hflag : FlagKept .arrived t u)
    (harmed : u.route.armed = t.route.armed) : ArrivalTest s u where
  arrives := fun hs => ⟨Eq.trans hflag (h.arrives hs).1, harmed.trans (h.arrives hs).2⟩
  stays := fun hs => ⟨Eq.trans hflag (h.stays hs).1, harmed.trans (h.stays hs).2⟩

/-- The arrival test of a report over a claim event after it. -/
theorem State.testArrival_event (own : State → State × List Claim) (s : State)
    (hflag : FlagKept .arrived s.testArrival (own s.testArrival).1)
    (harmed : (own s.testArrival).1.route.armed = s.testArrival.route.armed) :
    ArrivalTest s (claimEvent own true s.testArrival).1 :=
  s.testArrival_test.of_kept (hflag.trans (claimEvent_flagKept (e := .arrived) nofun nofun own true s.testArrival))
    ((claimEvent_armed own true s.testArrival).trans harmed)

theorem ArrivalTest.guided {s : State} {k : State → State} (h : ArrivalTest s (k s)) : ArrivalTest s (s.guided k) :=
  h.of_kept (State.guided_flagKept (e := .arrived) nofun k s) (congrArg (fun r => r.armed) (State.guided_route k s))

theorem ArrivalTest.trim {s t : State} (h : ArrivalTest s t) : ArrivalTest s t.trim :=
  h.of_kept (State.trim_flagKept (e := .arrived) nofun nofun t) (State.trim_armed t)

theorem State.reportPosition_test (s : State) : ArrivalTest s s.reportPosition :=
  ArrivalTest.guided (k := fun t => ((claimEvent ownNothing true t.testArrival).1).trim)
    (s.testArrival_event ownNothing rfl rfl).trim

theorem State.reportPosition_current (s : State) : s.reportPosition.guide = s.reportPosition.guidance := State.guided_current _ _

/-! ### The rows -/

theorem Switch.beq_one (f : Nat) : (f == 1) = decide (f = 1) := by
  rw [Bool.eq_iff_iff]
  simp

/-- Settles O31: refused, or both switches set and the motion that follows. -/
theorem stillControl : Obligations.StillControl := by
  intro s f d hport hst
  have htaken := exec_taken (.stillControl f d) .stillControl _ s hport rfl ((StationState.works_iff _).mpr hst)
  rw [htaken]
  refine ⟨fun hbad => ?_, fun hf hd => ?_⟩
  · rw [Cmd.run, ownStillControl, if_pos hbad]
    rfl
  · intro motion
    have hans : Cmd.run .stillControl [f, d] s = (s.setStill (f == 1) (d == 1), some (Reply.plain .done)) :=
      if_neg (by omega)
    rw [hans]
    generalize hv : ({ s with pos := { s.pos with force := decide (f = 1), detect := decide (d = 1) } } : State) = v
    have hset : s.setStill (f == 1) (d == 1) = v.followMotion := by
      rw [State.setStill, Switch.beq_one, Switch.beq_one, hv]
    have hmotion : motion = v.effectiveMotion := by
      rw [← hv]
      simp only [State.effectiveMotion, State.computedMotion, decide_eq_true_eq]
      rfl
    have hold : v.pos.motion = s.pos.motion := by rw [← hv]
    have hmoved : ({ s with pos := { s.pos with force := decide (f = 1), detect := decide (d = 1), motion := motion } } : State) =
        { v with pos := { v.pos with motion := v.effectiveMotion } } := by
      rw [hmotion, ← hv]
    rw [hset, hmoved]
    refine ⟨v.followMotion, rfl, v.followMotion_frame, fun hne => ?_, fun heq => ?_⟩
    · have hfollow := v.followMotion_changed (by rw [← hmotion, hold]; exact hne)
      exact ⟨hfollow ▸ State.reportPosition_test _, hfollow⟩
    · exact v.followMotion_same (by rw [← hmotion, hold, heq])

theorem State.credit_odo (s : State) : s.credit.odo = { s.odo with uncredited := 0, residue := s.credit.odo.residue } := by
  cases hi : s.pos.index with
  | none => rw [s.credit_unplaced hi]
  | some i =>
    obtain hcm | hcm := Nat.eq_zero_or_pos (s.creditHundredths / 100)
    · rw [s.credit_residue i hi hcm]
    · have hodo : s.credit.odo = (s.moved i).odo := by
        rw [s.credit_moved i hi hcm, State.dropQuality_eq, State.raiseIf_eq]
      rw [hodo]
      rfl

theorem State.newRace_credit (s : State) : s.credit.newRace = { s.credit with odo := { s.credit.odo with
    raceStart := s.clock, racePulses := 0, raceTickLimit := s.tuning 1, racePulseLimit := s.tuning 2 } } := by
  rw [s.credit_eq]
  rfl

/-- The state with the race measured: its speed, the still count and the motion (R18, R36, R37). -/
def State.raceMeasured (s : State) : State :=
  { s with odo := { s.odo with speed := raceSpeed s.odo.racePulses s.pulseLength s.raceTicks },
           pos := { s.pos with stillCount := s.stillCountNext } : State }.updateMotion

/-- The pulses of a measured race discarded or credited (R38). -/
def State.raceCounted (s : State) : State :=
  if s.discards then { s with odo := { s.odo with uncredited := 0 } } else s.credit

theorem State.raceEnd_eq {s s0 : State} (h : (if s.odo.racePulseLimit ≤ s.odo.racePulses then s else s.reach s.odo.ticksDue) = s0) :
    s.raceEnd = s0.raceMeasured.raceCounted.newRace.reportIf
      (decide (s0.raceMeasured.raceCounted.pos.reported ≠ s.pos.reported)) := by
  rw [← h]
  rfl

theorem State.raceCounted_newRace (s : State) : s.raceCounted.newRace = { s.raceCounted with odo := { s.raceCounted.odo with
    raceStart := s.clock, racePulses := 0, raceTickLimit := s.tuning 1, racePulseLimit := s.tuning 2 } } := by
  unfold State.raceCounted
  split
  · rfl
  · exact s.newRace_credit

theorem State.raceCounted_uncredited (s : State) : s.raceCounted.odo.uncredited = 0 := by
  unfold State.raceCounted
  split
  · rfl
  · rw [s.credit_odo]

theorem State.stillCountNext_eq (s : State) : s.stillCountNext =
    if s.odo.raceTickLimit ≤ s.raceTicks ∧ s.odo.racePulses ≤ s.stillThreshold then min 15 (s.pos.stillCount + 1) else 0 := by
  simp only [State.stillCountNext, State.slowRace, Bool.and_eq_true, decide_eq_true_eq]

theorem State.raceCounted_eq (s : State) : s.raceCounted =
    if s.pos.motion = .still ∧ s.odo.racePulses ≤ s.stillThreshold
    then { s with odo := { s.odo with uncredited := 0 } } else s.credit := by
  simp only [State.raceCounted, State.discards, Bool.and_eq_true, beq_iff_eq, decide_eq_true_eq]

/-- The report of a record v that was s's before (R27, R56). -/
theorem State.reportIf_spec (v s : State) {t : State} (h : v.reportIf (decide (v.pos.reported ≠ s.pos.reported)) = t) :
    ReportFrame v t ∧ (v.pos.reported = s.pos.reported → t = v) ∧
      (v.pos.reported ≠ s.pos.reported → t.guide = t.guidance ∧ ArrivalTest v t ∧ t = v.reportPosition) := by
  subst h
  refine ⟨v.reportIf_frame _, fun h => ?_, fun h => ?_⟩
  · rw [decide_eq_false (not_not_intro h), State.reportIf, if_neg Bool.false_ne_true]
  · rw [decide_eq_true h, State.reportIf, if_pos rfl]
    exact ⟨v.reportPosition_current, v.reportPosition_test, rfl⟩

theorem State.routeRelease_front {s : State} {g : Nat} {e : RouteEntry} {rest : List RouteEntry} {i : Nat}
    (h : s.route.entries = e :: rest) (hg : e.seg = g) (hi : s.pos.index = some (i + 1)) : s.routeRelease g = { s with
      route := { s.route with entries := rest }, pos := { s.pos with index := some i },
      claim := { s.claim with list := s.claim.list.map (Claim.shift (s.map.lengthOf e.seg)) } } := by
  have hindex : s.pos.index.map (· - 1) = some i := by
    rw [hi]
    exact congrArg some (Nat.add_sub_cancel i 1)
  calc s.routeRelease g
    _ = s.removeFront := State.routeRelease_removes h hg hi
    _ = _ := State.removeFront_cons h
    _ = _ := congrArg (fun o => ({ s with
        route := { s.route with entries := rest }, pos := { s.pos with index := o },
        claim := { s.claim with list := s.claim.list.map (Claim.shift (s.map.lengthOf e.seg)) } } : State)) hindex

/-- Settles O35: the row's steps, the report's parts, and what the release and the trim take off. -/
theorem wheelPulseAndRaceEnd : Obligations.WheelPulseAndRaceEnd := by
  intro s hrun
  refine ⟨exec_row (k := State.wheelPulse) hrun rfl, ?_,
    fun g e rest h => ⟨fun i hg hi => State.routeRelease_front h hg hi, fun hno => State.routeRelease_stays h hno⟩,
    s.trim_nobody, fun b i hb hi => ?_⟩
  · intro now ticks slow count motion measured counted fresh
    have hnow : (if s.odo.racePulseLimit ≤ s.odo.racePulses then s else s.reach s.odo.ticksDue) = { s with clock := now } := by
      dsimp only [now]
      split <;> rfl
    have hcount : State.stillCountNext { s with clock := now } = count := State.stillCountNext_eq _
    have hmeasured : State.raceMeasured { s with clock := now } = measured := by
      rw [State.raceMeasured, hcount]
      rfl
    have hcounted : measured.raceCounted = counted := measured.raceCounted_eq
    have hfresh : counted.newRace = fresh := by
      rw [← hcounted, measured.raceCounted_newRace, hcounted]
      rfl
    have hend : s.raceEnd = fresh.reportIf (decide (fresh.pos.reported ≠ s.pos.reported)) := by
      rw [State.raceEnd_eq hnow, hmeasured, hcounted, hfresh]
    have hnone : fresh.odo.uncredited = 0 :=
      (congrArg (fun u : State => u.odo.uncredited) hcounted.symm).trans measured.raceCounted_uncredited
    obtain ⟨hframe, hsame, hmoved⟩ := fresh.reportIf_spec s rfl
    exact ⟨_, (exec_row (k := State.raceEnd) hrun rfl).trans (congrArg _ hend), hframe, hframe.odo ▸ hnone, hsame, hmoved, rfl⟩
  · intro through
    obtain ⟨k, hk, hdrop, hgone, hstays⟩ := trimRepeat_spec _ s b i (Nat.le_refl _) hb hi
    have htrim : s.trim = s.dropFront k := hdrop
    refine ⟨k, hk, by rw [htrim]; rfl, by rw [htrim, State.dropFront, hi]; rfl, hgone, hstays⟩

/-! ### A change of direction (O36) -/

theorem State.directionStood_iff (s : State) :
    s.directionStood = true ↔ ∃ due, s.odo.directionDue = some due ∧ due ≤ s.clock := by
  unfold State.directionStood
  cases s.odo.directionDue <;> simp

theorem State.directionLevel_waits {s : State} (hrun : s.pins.resetHeld = false)
    (h : ∀ due, s.odo.directionDue = some due → s.clock < due) : s.directionLevel = s.flipWdir.watchDirection := by
  have hstood : ¬ s.directionStood = true := fun hd => by
    obtain ⟨due, hdue, hle⟩ := s.directionStood_iff.mp hd
    exact absurd (h due hdue) (Nat.not_lt.mpr hle)
  rw [State.directionLevel, if_neg (by simp [hrun]), if_neg hstood]

theorem State.directionLevel_stood {s : State} (hrun : s.pins.resetHeld = false) {due : Nat} (hdue : s.odo.directionDue = some due)
    (hle : due ≤ s.clock) : s.directionLevel = s.directionChange.flipWdir.watchDirection := by
  rw [State.directionLevel, if_neg (by simp [hrun]), if_pos (s.directionStood_iff.mpr ⟨due, hdue, hle⟩)]

/-- The record of a direction taken: credited in the old sense, nothing uncredited, no residue (R22). -/
def State.turned (due : Nat) (s : State) : State :=
  { State.credit { s with clock := max s.clock due } with
    odo := { s.odo with uncredited := 0, residue := 0, directionDue := none,
                        direction := if s.pins.wdirHigh then .forward else .reverse } }

theorem State.directionChange_due {s : State} {due : Nat} (hdue : s.odo.directionDue = some due) :
    s.directionChange = (s.turned due).reportPosition := by
  simp only [State.directionChange, hdue]
  rw [State.credit_odo]
  rfl

theorem State.turned_pins (due : Nat) (s : State) : (s.turned due).pins = s.pins :=
  (congrArg State.pins (State.credit_eq { s with clock := max s.clock due }) :)

/-- Settles O36: the level's own two cases, and the change that is taken. -/
theorem directionRows : Obligations.DirectionRows := by
  intro s hrun
  have hlevel (u : State) : exec .directionLevelChange u = .next u.directionLevel := rfl
  have hchange : exec .directionChange s = .next s.directionChange := exec_row (k := State.directionChange) hrun rfl
  refine ⟨fun h => ?_, fun due u hdue hle hu => ?_, fun hnone => ?_, fun due hdue => ?_⟩
  · rw [hlevel, State.directionLevel_waits hrun h]
    cases hw : s.pins.wdirHigh <;> simp only [State.flipWdir, State.watchDirection, directionOf, hw] <;> rfl
  · obtain rfl := Host.Outcome.next.inj (hchange.symm.trans hu)
    have hframe := (s.turned due).reportPosition_frame
    rw [← State.directionChange_due hdue] at hframe
    have hu : s.directionChange.pins.resetHeld = false := by rw [hframe.pins, State.turned_pins, hrun]
    have hdone : s.directionChange.odo.directionDue = none := by rw [hframe.odo]; rfl
    rw [hlevel, hlevel, State.directionLevel_stood hrun hdue hle, State.directionLevel_waits hu fun due h => nomatch hdone.symm.trans h]
  · rw [hchange, State.directionChange, hnone]
  · intro credited turned
    exact ⟨_, hchange.trans (congrArg _ (State.directionChange_due hdue)), State.reportPosition_current _,
      State.reportPosition_frame _, rfl⟩

end Sys2Proof.Machine
end

section
/-! PROOFS. The life cycle's start, the load, the class, and the modem's start-of-send (10.2, 8.4, 6.1, 4.1; O22, O29,
O42). -/

namespace Sys2Proof.Machine

/-! ### The frame of an event, of its own effect's frame -/

theorem State.guidedEvent_frame {own : State → State × List Claim} {s : State} (h : ReportFrame s (own s).1) :
    ReportFrame s (s.guided (fun t => (claimEvent own true t).1)) :=
  (h.trans (claimEvent_frame own true s)).trans (s.guided_frame (fun t => (claimEvent own true t).1))

/-! ### START and the join listen (O22) -/

theorem State.startCheck_id {s : State} (hc : s.ctl.state = .config) (hid : s.ctl.id < 1 ∨ 62 < s.ctl.id) :
    s.startCheck = some 0 := by
  rw [State.startCheck, if_pos hc, if_pos hid]

theorem State.startCheck_unsealed {s : State} (hc : s.ctl.state = .config) (hlow : 1 ≤ s.ctl.id) (hhigh : s.ctl.id ≤ 62)
    (hmap : s.map.isSealed = false) : s.startCheck = some 1 := by
  rw [State.startCheck, if_pos hc, if_neg (by omega), hmap]
  rfl

theorem State.startCheck_passes {s : State}
    (h : (s.ctl.state = .config ∧ 1 ≤ s.ctl.id ∧ s.ctl.id ≤ 62 ∧ s.map.isSealed = true) ∨ s.ctl.state = .offLine) :
    s.startCheck = none := by
  obtain ⟨hc, hlow, hhigh, hmap⟩ | hoff := h
  · rw [State.startCheck, if_pos hc, if_neg (by omega), if_pos hmap]
  · rw [State.startCheck, if_neg (by simp [hoff])]

theorem ownStartCommand_fails {s : State} {c : Nat} (h : s.startCheck = some c) :
    ownStartCommand s = (s, some { status := .refusedValue, data := pack 1 c }) := by
  simp only [ownStartCommand, h]

theorem ownStartCommand_joins {s : State} (h : s.startCheck = none) :
    ownStartCommand s = (s.join, some (Reply.plain .done)) := by
  simp only [ownStartCommand, h]

theorem exec_start {s : State} (hport : PortFree s) (hst : s.ctl.state.starts = true) :
    exec .start s = .next ((ownStartCommand s).1.queueReply (ownStartCommand s).2) :=
  exec_taken .start .start [] s hport rfl hst

theorem State.joinExpiry_stays {s : State} (h : s.ctl.state ≠ .joining ∨ s.ctl.joinTimer = none) : s.joinExpiry = s := by
  unfold State.joinExpiry
  split
  · next due hjoin htimer =>
    obtain h | h := h
    · exact absurd hjoin h
    · exact nomatch htimer.symm.trans h
  · rfl

theorem State.joinExpiry_runs {s : State} {due : Nat} (hst : s.ctl.state = .joining) (ht : s.ctl.joinTimer = some due) :
    s.joinExpiry = ({ s with clock := max s.clock due, ctl := { s.ctl with state := .run, joinTimer := none } } : State).guided
      (fun t => (claimEvent ownNothing true t).1) := by
  simp only [State.joinExpiry, hst, ht]
  rfl

/-- Settles O22: the two checks, the joining and the join listen's end. -/
theorem startAndJoinListen : Obligations.StartAndJoinListen := by
  refine fun s => ⟨fun hport => ⟨fun hc hid => ?_, fun hc hlow hhigh hmap => ?_, fun h => ?_⟩, fun hrun => ⟨fun due hst ht => ?_, fun h => ?_⟩⟩
  · rw [exec_start hport (by rw [hc]; rfl), ownStartCommand_fails (State.startCheck_id hc hid)]
    rfl
  · rw [exec_start hport (by rw [hc]; rfl), ownStartCommand_fails (State.startCheck_unsealed hc hlow hhigh hmap)]
    rfl
  · intro started
    have hst : s.ctl.state.starts = true := by
      obtain ⟨hc, -⟩ | hoff := h
      · rw [hc]; rfl
      · rw [hoff]; rfl
    rw [exec_start hport hst, ownStartCommand_joins (State.startCheck_passes h)]
    exact ⟨s.join, rfl, State.guided_current _ _, rfl, State.guidedEvent_frame (ownStart_frame started)⟩
  · intro running
    have hrow : exec .joinListenExpiry s = .next s.joinExpiry := exec_row (k := State.joinExpiry) hrun rfl
    rw [hrow, State.joinExpiry_runs hst ht]
    exact ⟨_, rfl, State.guided_current _ _, rfl, State.guidedEvent_frame (ReportFrame.refl running)⟩
  · have hrow : exec .joinListenExpiry s = .next s.joinExpiry := exec_row (k := State.joinExpiry) hrun rfl
    rw [hrow, State.joinExpiry_stays h]

/-! ### SET LOAD and SET PRIORITY (O29) -/

theorem State.recompute_keeps (s : State) :
    s.recompute.claim = s.claim ∧ s.recompute.sched = s.sched ∧ s.recompute.link = s.link ∧ s.recompute.route = s.route ∧
      s.recompute.pos = s.pos := by
  unfold State.recompute State.setGuide
  cases (s.drive.deliver s.phase s.guidance).fell <;> exact ⟨rfl, rfl, rfl, rfl, rfl⟩

/-- Settles O29: the load with its recomputation, and the class with the Claim Unit's event. -/
theorem setLoadAndPriority : Obligations.SetLoadAndPriority := by
  intro s v hport hst
  have hload := exec_taken (.setLoad v) .setLoad _ s hport rfl ((StationState.works_iff _).mpr hst)
  have hprio := exec_taken (.setPriority v) .setPriority _ s hport rfl ((StationState.works_iff _).mpr hst)
  rw [hload, hprio]
  refine ⟨fun hbad => ?_, fun hok => ?_, _, rfl, ?_⟩
  · rw [Cmd.run, ownSetLoad, if_pos hbad]
    rfl
  · rw [Cmd.run, ownSetLoad, if_neg (Nat.not_lt.mpr hok)]
    obtain ⟨hclaim, hsched, hlink, hroute, hpos⟩ := State.recompute_keeps { s with load := if v = 1 then .laden else .empty }
    exact ⟨_, rfl, State.recompute_current _, hclaim, hsched, hlink, hroute, hpos, State.recompute_frame _⟩
  · have hframe := State.claimOnly_frame ownNothing true { s with claim := { s.claim with prec := min 3 v } }
    exact ⟨rfl, hframe.prec, hframe⟩

/-! ### The modem's start-of-send (O42) -/

theorem Scheduler.decideWindow_some {c : Scheduler} {w : NearWindow} (h : c.window = some w) :
    c.decideWindow = { c with
      window := none,
      nearCount := if w.coincident then (if 4 ≤ c.nearCount + 1 then 0 else c.nearCount + 1) else 0,
      slotIndex := if w.coincident = true ∧ 4 ≤ c.nearCount + 1 then (c.slotIndex + 1) % 8 else c.slotIndex } := by
  simp only [Scheduler.decideWindow, h]
  cases hw : w.coincident with
  | false => simp
  | true => by_cases h4 : 4 ≤ c.nearCount + 1 <;> simp [h4]

/-- The run of coincidences with the open window's notice decided. -/
def Scheduler.decidedCount (c : Scheduler) : Nat :=
  let coincident := match c.window with
    | some w => w.coincident
    | none => false
  if c.window = none then c.nearCount else if coincident then c.nearCount + 1 else 0

theorem Scheduler.decideWindow_eq (c : Scheduler) : c.decideWindow = { c with
    window := none,
    nearCount := if c.window ≠ none ∧ 4 ≤ c.decidedCount then 0 else c.decidedCount,
    slotIndex := if c.window ≠ none ∧ 4 ≤ c.decidedCount then (c.slotIndex + 1) % 8 else c.slotIndex } := by
  cases hw : c.window with
  | none =>
    obtain ⟨slot, cadence, sequence, fresh, near, window, guard, pending, leaves⟩ := c
    subst hw
    rfl
  | some w =>
    have hcount : c.decidedCount = if w.coincident then c.nearCount + 1 else 0 := by
      rw [Scheduler.decidedCount, hw]
      rfl
    rw [Scheduler.decideWindow_some hw, hcount]
    cases w.coincident <;> simp

theorem State.startOfSend_position {s : State} {p : PositionNotice} {f : List Byte}
    (h : s.link.slot = some { notice := .position p, frame := f }) :
    s.startOfSend = (State.positionTaken p.fresh { s with link := s.link.takeSlot }).claimOnly (ownAdvertise p.wanted) true := by
  simp only [State.startOfSend, h]

theorem State.startOfSend_leave {s : State} {id q : Nat} {f : List Byte}
    (h : s.link.slot = some ⟨.leave id q, f⟩) :
    s.startOfSend = State.leaveTaken { s with link := s.link.takeSlot } := by
  simp only [State.startOfSend, h]

theorem State.goOffLine_frame (s : State) :
    ReportFrame { s with sched := { s.sched with guard := none }, ctl := { s.ctl with state := .offLine } } s.goOffLine :=
  State.recompute_frame _

theorem State.goOffLine_guard (s : State) : s.goOffLine.sched.guard = none := by
  obtain ⟨-, hsched, -⟩ := State.recompute_keeps
    { s with sched := { s.sched with guard := none }, ctl := { s.ctl with state := .offLine } }
  exact congrArg Scheduler.guard hsched

/-- Settles O42: the empty slot, the POSITION notice taken, and the LEAVE notice taken. -/
theorem startOfSend : Obligations.StartOfSend := by
  intro s hrun
  have hrow : exec .startOfSend s = .next s.startOfSend := exec_row (k := State.startOfSend) hrun rfl
  rw [hrow]
  refine ⟨fun h => ?_, fun p f h => ?_, fun id q f h => ?_⟩
  · rw [State.startOfSend, h]
  · intro coincident count taken
    have htaken : State.positionTaken p.fresh { s with link := s.link.takeSlot } = taken := by
      simp only [State.positionTaken, Scheduler.decideWindow_eq]
      rfl
    rw [State.startOfSend_position h, htaken]
    refine ⟨rfl, List.map_congr_left fun e _ => ?_, rfl,
      (ownAdvertise_frame p.wanted taken).trans (taken.claimOnly_frame (ownAdvertise p.wanted) true)⟩
    simp only [Bool.and_eq_true, Bool.not_eq_true', Claim.isHeld_false_iff, List.contains_iff_mem]
  · intro after
    rw [State.startOfSend_leave h]
    refine ⟨fun hst h3 => ?_, fun hno => ?_⟩
    · have hoff : State.leaveTaken { s with link := s.link.takeSlot } = after.goOffLine := if_pos ⟨hst, h3⟩
      rw [hoff]
      exact ⟨_, rfl, State.recompute_current _, after.goOffLine_guard, after.goOffLine_frame⟩
    · exact congrArg _ (if_neg fun hh => hno.elim (fun hn => hn hh.1) fun hlt => absurd hh.2 (Nat.not_le.mpr hlt))

end Sys2Proof.Machine
end

section
/-! PROOFS. Taking a POSITION or LEAVE notice (5.2, 5.4, 5.6; O43). -/

namespace Sys2Proof.Machine

/-! ### The sequence test (R82) -/

theorem behind_eq (last seq : Nat) : (((last : Int) - seq).emod 256).toNat = behind last seq := by
  have hmod : ((last : Int) - seq).emod 256 = ((last : Int) - seq) % 256 := rfl
  rw [hmod, behind]
  omega

theorem acceptMissed_stale {p : Peer} {fresh : Bool} {seq : Nat} (hf : fresh = false) (h : behind p.sequence seq < 128) :
    acceptMissed p fresh seq = none := by
  simp only [acceptMissed, hf, Bool.false_eq_true, if_false, if_neg (Nat.not_le.mpr h)]

theorem acceptMissed_accepts {p : Peer} {fresh : Bool} {seq : Nat} (h : fresh = true ∨ 128 ≤ behind p.sequence seq) :
    acceptMissed p fresh seq =
      some (if fresh then p.missed else min (p.missed + (behind seq p.sequence - 1)) 65535) := by
  cases fresh with
  | true => rfl
  | false => exact if_pos (h.resolve_left Bool.false_ne_true)

/-! ### The reports, as the statement writes them -/

theorem ownRemoval_eq (id : Nat) : ownRemoval id = fun t =>
    ({ t with claim := { t.claim with doubles := t.claim.doubles.filter (fun d => decide (d.1 ≠ id)) } }, []) := by
  funext t
  have hkeep : (fun d : Nat × Nat => d.1 != id) = fun d => decide (d.1 ≠ id) := by
    funext d
    rw [Bool.eq_iff_iff]
    simp
  rw [ownRemoval, hkeep]

theorem State.takeClash_frame (s : State) :
    ReportFrame { s with claim := { s.claim with clash := some (s.clock + 1000 * s.lostTime) } } s.takeClash :=
  (State.raise_frame .idClash _).trans ((s.raise .idClash).claimOnly_frame ownClash false)

theorem State.takeClash_flag (s : State) : s.takeClash.flag .idClash = true :=
  ((s.raise .idClash).claimOnly_frame ownClash false).flags .idClash
    ((s.flag_raise_eq .idClash .idClash).trans (by simp))

theorem ReportFrame.saturationEnd {s t : State} (h : ReportFrame s t) (was : Bool) :
    ReportFrame (s.setSuspension (if was then false else s.claim.satSuspension)) (t.reportSaturationEnd was) := by
  have hended := t.reportSaturationEnd_frame was
  rw [h.suspension] at hended
  exact (h.setSuspension _).trans hended

/-! ### The candidate for eviction (R88) -/

theorem Peer.evictable_iff (p : Peer) : p.evictable = true ↔ p.status = .lost ∧ p.held = [] := by
  simp [Peer.evictable]

theorem State.candidate_none {s : State} {l : List Peer} (h : ∀ q ∈ l, q.evictable = false) : s.candidate l = none := by
  induction l with
  | nil => rfl
  | cons p rest ih =>
    rw [State.candidate, ih fun q hq => h q (List.mem_cons_of_mem _ hq)]
    simp only [h p List.mem_cons_self, Bool.false_eq_true, if_false]

theorem State.candidate_none_iff {s : State} {l : List Peer} : s.candidate l = none ↔ ∀ q ∈ l, q.evictable = false := by
  refine ⟨fun h => ?_, State.candidate_none⟩
  induction l with
  | nil => simp
  | cons p rest ih =>
    rw [State.candidate] at h
    cases hrest : s.candidate rest with
    | some q =>
      simp only [hrest] at h
      split at h <;> exact nomatch h
    | none =>
      simp only [hrest, ite_eq_right_iff, reduceCtorEq, imp_false, Bool.not_eq_true] at h
      exact List.forall_mem_cons.mpr ⟨h, ih hrest⟩

/-- The candidate is evictable, none before it is heard as long ago and none after it longer ago. -/
theorem State.candidate_some {s : State} {l : List Peer} {out : Peer} (h : s.candidate l = some out) :
    out.evictable = true ∧ ∃ pre post, l = pre ++ out :: post ∧
      (∀ q ∈ pre, q.evictable = true → s.peerTime q < s.peerTime out) ∧
      ∀ q ∈ post, q.evictable = true → s.peerTime q ≤ s.peerTime out := by
  induction l generalizing out with
  | nil => exact nomatch h
  | cons p rest ih =>
    rw [State.candidate] at h
    cases hrest : s.candidate rest with
    | none =>
      simp only [hrest, Option.ite_none_right_eq_some, Option.some.injEq] at h
      obtain ⟨hp, rfl⟩ := h
      refine ⟨hp, [], rest, rfl, by simp, fun q hq hev => ?_⟩
      exact absurd hev (by simp [State.candidate_none_iff.mp hrest q hq])
    | some q =>
      obtain ⟨hq, pre, post, rfl, hpre, hpost⟩ := ih hrest
      simp only [hrest, Bool.and_eq_true, decide_eq_true_eq] at h
      split at h
      · next hp =>
        obtain rfl := Option.some.inj h
        refine ⟨hp.1, [], _, rfl, by simp, fun x hx hev => ?_⟩
        rw [List.mem_append, List.mem_cons] at hx
        obtain hx | rfl | hx := hx
        · exact Nat.le_trans (Nat.le_of_lt (hpre x hx hev)) hp.2
        · exact hp.2
        · exact Nat.le_trans (hpost x hx hev) hp.2
      · next hp =>
        obtain rfl := Option.some.inj h
        refine ⟨hq, p :: pre, post, rfl, fun x hx hev => ?_, hpost⟩
        obtain rfl | hx := List.mem_cons.mp hx
        · exact Nat.not_le.mp fun hle => hp ⟨hev, hle⟩
        · exact hpre x hx hev

/-! ### A notice at the Peer View (R80) -/

theorem State.takePosition_own {s : State} {n : PositionNotice} (h : n.id = s.ctl.id) : s.takePosition n = s.takeClash := if_pos h

theorem State.takePosition_stale {s : State} {n : PositionNotice} {p : Peer} (hid : n.id ≠ s.ctl.id)
    (hp : s.peers.find n.id = some p) (h : acceptMissed p n.fresh n.sequence = none) : s.takePosition n = s.countStale := by
  simp only [State.takePosition, if_neg hid, hp, h]

theorem State.takePosition_accepted {s : State} {n : PositionNotice} {p : Peer} {m : Nat} (hid : n.id ≠ s.ctl.id)
    (hp : s.peers.find n.id = some p) (h : acceptMissed p n.fresh n.sequence = some m) :
    s.takePosition n = (s.setPeers (s.peers.update (n.entry s.clock m))).reportAccepted (n.entry s.clock m) := by
  simp only [State.takePosition, if_neg hid, hp, h]

theorem State.takePosition_unknown {s : State} {n : PositionNotice} (hid : n.id ≠ s.ctl.id)
    (hno : ∀ q ∈ s.peers.entries, q.id ≠ n.id) : s.takePosition n = s.enterPeer n := by
  have hfind : s.peers.find n.id = none := List.find?_eq_none.mpr fun q hq => by simpa using hno q hq
  simp only [State.takePosition, if_neg hid, hfind]

theorem State.enterPeer_room {s : State} {n : PositionNotice} (h : s.peers.entries.length < 48) : s.enterPeer n =
    (s.setPeers { s.peers with entries := s.peers.entries ++ [n.entry s.clock 0] }).reportAccepted (n.entry s.clock 0) :=
  if_pos h

theorem State.enterPeer_full {s : State} {n : PositionNotice} (h : 48 ≤ s.peers.entries.length)
    (hno : s.candidate s.peers.entries = none) : s.enterPeer n = s.unenterable := by
  simp only [State.enterPeer, if_neg (Nat.not_lt.mpr h : ¬ s.peers.entries.length < Config.peerCapacity), hno]

theorem State.enterPeer_evicts {s : State} {n : PositionNotice} {out : Peer} (h : 48 ≤ s.peers.entries.length)
    (hout : s.candidate s.peers.entries = some out) : s.enterPeer n =
      (((s.setPeers { entries := s.peers.entries.filter (·.id != out.id) ++ [n.entry s.clock 0], saturation := none }).reportRemoval
        out.id).reportAccepted (n.entry s.clock 0)).reportSaturationEnd s.peers.saturation.isSome := by
  simp only [State.enterPeer, if_neg (Nat.not_lt.mpr h : ¬ s.peers.entries.length < Config.peerCapacity), hout]
  rfl

/-- The state that waits for room: the saturation timer starts again. -/
def State.waiting (s : State) : State := s.setPeers { s.peers with saturation := some (s.clock + 1000 * s.lostTime) }

/-- A notice that cannot be entered starts the saturation timer again, and saturates the table that was not (R89). -/
theorem State.unenterable_eq (s : State) : s.unenterable =
    if s.peers.saturation = none
    then (s.waiting.raise .saturated).claimOnly (ownSaturation true) false else s.waiting := by
  unfold State.unenterable
  cases s.peers.saturation <;> rfl

theorem State.unenterable_flag {s : State} (h : s.peers.saturation = none) : s.unenterable.flag .saturated = true := by
  rw [State.unenterable_eq, if_pos h]
  exact ((s.waiting.raise .saturated).claimOnly_frame (ownSaturation true) false).flags .saturated
    ((s.waiting.flag_raise_eq .saturated .saturated).trans (by simp))

theorem State.unenterable_frame (s : State) : ReportFrame { s with
      peers := { s.peers with saturation := some (s.clock + 1000 * s.lostTime) },
      claim := { s.claim with satSuspension := if s.peers.saturation = none then true else s.claim.satSuspension } }
    s.unenterable := by
  rw [State.unenterable_eq]
  by_cases h : s.peers.saturation = none
  · rw [if_pos h, if_pos h]
    exact (State.raise_frame .saturated _).trans ((s.waiting.raise .saturated).claimOnly_frame (ownSaturation true) false)
  · rw [if_neg h, if_neg h]
    exact ReportFrame.refl _

theorem State.takeLeave_own {s : State} {id seq : Nat} (h : id = s.ctl.id) : s.takeLeave id seq = s.takeClash := if_pos h

theorem State.takeLeave_unknown {s : State} {id seq : Nat} (hid : id ≠ s.ctl.id)
    (hno : ∀ q ∈ s.peers.entries, q.id ≠ id) : s.takeLeave id seq = s := by
  have hfind : s.peers.find id = none := List.find?_eq_none.mpr fun q hq => by simpa using hno q hq
  simp only [State.takeLeave, if_neg hid, hfind]

theorem State.takeLeave_stale {s : State} {id seq : Nat} {p : Peer} (hid : id ≠ s.ctl.id)
    (hp : s.peers.find id = some p) (h : acceptMissed p false seq = none) : s.takeLeave id seq = s.countStale := by
  simp only [State.takeLeave, if_neg hid, hp, h]

theorem State.takeLeave_accepted {s : State} {id seq : Nat} {p : Peer} {m : Nat} (hid : id ≠ s.ctl.id)
    (hp : s.peers.find id = some p) (h : acceptMissed p false seq = some m) : s.takeLeave id seq = s.removePeer id := by
  simp only [State.takeLeave, if_neg hid, hp, h]

theorem State.removePeer_frame (id : Nat) (s : State) :
    ReportFrame ((s.setPeers { s.peers.without id with saturation := none }).setSuspension
      (if s.peers.saturation.isSome then false else s.claim.satSuspension)) (s.removePeer id) :=
  State.removalReports_frame id s.peers.saturation.isSome (s.setPeers { s.peers.without id with saturation := none })

/-- Settles O43: a POSITION notice of the own, a known and an unknown station, and a LEAVE notice of each. -/
theorem frameParse : Obligations.FrameParse := by
  intro s f rest hrun hc hq s0 stale behind' clash suspend removal accepted ended entry
  have hbehind (last seq : Nat) : behind' last seq = behind last seq := behind_eq last seq
  have hremoval (id : Nat) (u : State) : removal id u = u.reportRemoval id := by
    rw [State.reportRemoval, ownRemoval_eq]
  have hparse (n : Notice) (hn : readNotice f = some n) : exec .frameParse s = .next (s0.handNotice n) :=
    (exec_row (k := State.frameParse) hrun rfl).trans (congrArg _ (State.frameParse_notice hc hq hn))
  refine ⟨fun n hn => ⟨fun hid => ?_, fun p hid hp => ⟨fun hf hb => ?_, fun h => ?_⟩, fun hid hno => ⟨fun hroom => ?_,
    fun hfull hkeep => ?_, fun hfull hany => ?_⟩⟩, fun id q hn => ⟨fun hid => ?_, fun hid hno => ?_, fun p hid hp => ⟨fun hb => ?_,
    fun hb => ?_⟩⟩⟩
  · rw [hparse _ hn]
    exact ⟨_, congrArg _ (State.takePosition_own (s := s0) hid), s0.takeClash_flag, rfl, s0.takeClash_frame⟩
  · rw [hparse _ hn]
    exact congrArg _ (State.takePosition_stale (s := s0) hid hp (acceptMissed_stale hf (hbehind _ _ ▸ hb)))
  · intro missed updated
    rw [hbehind] at h
    have hmissed := acceptMissed_accepts (p := p) h
    rw [← hbehind] at hmissed
    rw [hparse _ hn]
    exact ⟨_, congrArg _ (State.takePosition_accepted (s := s0) hid hp hmissed), rfl, State.reportAccepted_frame _ updated⟩
  · rw [hparse _ hn]
    exact ⟨_, congrArg _ ((State.takePosition_unknown (s := s0) hid hno).trans (State.enterPeer_room hroom)), rfl,
      State.reportAccepted_frame _ _⟩
  · intro waiting
    have hnone : s0.candidate s0.peers.entries = none := State.candidate_none fun q hq => Bool.eq_false_iff.mpr fun hev =>
      (hkeep q hq).elim (fun h => h ((Peer.evictable_iff q).mp hev).1) fun h => h ((Peer.evictable_iff q).mp hev).2
    rw [hparse _ hn]
    exact ⟨_, congrArg _ ((State.takePosition_unknown (s := s0) hid hno).trans (State.enterPeer_full hfull hnone)),
      State.unenterable_flag (s := s0), s0.unenterable_eq, s0.unenterable_frame⟩
  · obtain ⟨out, hout⟩ : ∃ out, s0.candidate s0.peers.entries = some out := by
      refine Option.ne_none_iff_exists'.mp fun hnone => ?_
      obtain ⟨x, hx, hlost, hfree⟩ := hany
      exact absurd ((Peer.evictable_iff x).mpr ⟨hlost, hfree⟩) (by simp [State.candidate_none_iff.mp hnone x hx])
    obtain ⟨hev, pre, post, hsplit, hpre, hpost⟩ := State.candidate_some hout
    obtain ⟨hlost, hfree⟩ := (Peer.evictable_iff out).mp hev
    have hsplit' : s.peers.entries = pre ++ out :: post := hsplit
    let evicted : State := { s0 with peers :=
      { entries := s.peers.entries.filter (fun q => q.id != out.id) ++ [entry n 0], saturation := none } }
    rw [hparse _ hn]
    refine ⟨_, out, congrArg _ ((State.takePosition_unknown (s := s0) hid hno).trans (State.enterPeer_evicts hfull hout)),
      by simp [hsplit'], hlost, hfree, fun x hx hl hh => ?_, ⟨pre, post, hsplit', fun x hx hl hh =>
        hpre x hx ((Peer.evictable_iff x).mpr ⟨hl, hh⟩)⟩, ?_, ?_⟩
    · have hxev := (Peer.evictable_iff x).mpr ⟨hl, hh⟩
      rw [hsplit', List.mem_append, List.mem_cons] at hx
      obtain hx | rfl | hx := hx
      · exact Nat.le_of_lt (hpre x hx hxev)
      · exact Nat.le_refl _
      · exact hpost x hx hxev
    · rw [hremoval]
      rfl
    · exact ((State.reportRemoval_frame out.id evicted).trans (State.reportAccepted_frame _ _)).saturationEnd
        s.peers.saturation.isSome
  · rw [hparse _ hn]
    exact ⟨_, congrArg _ (State.takeLeave_own (s := s0) hid), s0.takeClash_flag, rfl, s0.takeClash_frame⟩
  · rw [hparse _ hn]
    exact congrArg _ (State.takeLeave_unknown (s := s0) hid hno)
  · rw [hparse _ hn]
    exact congrArg _ (State.takeLeave_stale (s := s0) hid hp (acceptMissed_stale rfl (hbehind _ _ ▸ hb)))
  · rw [hbehind] at hb
    rw [hparse _ hn, hremoval]
    exact ⟨_, congrArg _ (State.takeLeave_accepted (s := s0) hid hp (acceptMissed_accepts (.inr hb))), rfl,
      s0.removePeer_frame id⟩

end Sys2Proof.Machine
end

section
/-! PROOFS. ROUTE in both modes: the plan, the entries written, the report of the route change (3.2, 3.5; O25, O26). -/

namespace Sys2Proof.Machine

/-! ### The report of a route change (R51, R56, R110) -/

theorem ownRouteChange_keeps (s : State) : (ownRouteChange s).1.port = s.port ∧ (ownRouteChange s).1.route = s.route := ⟨rfl, rfl⟩

theorem State.reportRoute_test (s : State) : ArrivalTest s s.reportRoute := by
  obtain ⟨hport, hroute⟩ := ownRouteChange_keeps s.testArrival
  exact ArrivalTest.guided (k := fun t => (claimEvent ownRouteChange true t.testArrival).1)
    (s.testArrival_event ownRouteChange (State.port_flagKept hport) (congrArg (fun r => r.armed) hroute))

/-- The arrival test of a record with another flag raised is that of the record. -/
theorem ArrivalTest.of_raise {s t : State} {c : Bool} {e : Event} (he : Event.arrived ≠ e) (h : ArrivalTest (s.raiseIf c e) t) :
    ArrivalTest s t := by
  have hflag : (s.raiseIf c e).flag .arrived = s.flag .arrived := s.raiseIf_flagKept he c
  have hsame : AtStop (s.raiseIf c e) ↔ AtStop s := by cases c <;> exact Iff.rfl
  have harmed : (s.raiseIf c e).route.armed = s.route.armed := by cases c <;> rfl
  exact { arrives := fun hs => h.arrives (hsame.mpr hs)
          stays := fun hs => hflag ▸ harmed ▸ h.stays fun hs' => hs (hsame.mp hs') }

/-! ### The route written (R45 to R51) -/

theorem State.routeStop_eq {s : State} {p : RouteParams} {t : Taking} {last : RouteEntry} {sp so : Nat}
    (hsp : p.stopPresent = some sp) (hso : p.stopOffset = some so) : s.routeStop p t last =
      (if t.cut = none ∧ sp = 1 then some (min so (s.map.lengthOf last.seg)) else none,
       decide (t.cut = none ∧ sp = 1 ∧ s.map.lengthOf last.seg < so)) := by
  cases hcut : t.cut with
  | some c => simp [State.routeStop, hcut]
  | none =>
    by_cases h1 : sp = 1
    · simp [State.routeStop, hcut, hsp, hso, h1]
    · simp only [State.routeStop, hcut, hsp, hso, h1, and_false, false_and, if_false, decide_false]
      split
      · next h _ => exact absurd (Option.some.inj h) h1
      · rfl

theorem routeData_eq (n : Nat) (cut : Option (CutReason × Nat)) : routeData n cut = pack 1 n ++ match cut with
    | none => [0#8, 0#8]
    | some (r, pos) => pack 1 r.code ++ pack 1 pos := by
  cases cut with
  | none => exact List.append_assoc _ _ _
  | some c => exact List.append_assoc _ _ _

/-- A planned ROUTE with its stop parameters, written: the route, the flag, the report, and the reply. -/
theorem State.writeRoute_spec (s : State) {p : RouteParams} (plan : RoutePlan) (received : Nat) {sp so : Nat}
    (hsp : p.stopPresent = some sp) (hso : p.stopOffset = some so) (t : Taking)
    (ht : takeIds s.map plan.room (plan.already + 1) plan.last plan.ids = t) :
    let final := (t.entries.getLast?).getD plan.last
    let stop : Option Nat := if t.cut = none ∧ sp = 1 then some (min so (s.map.lengthOf final.seg)) else none
    let clamped : Bool := t.cut = none ∧ sp = 1 ∧ s.map.lengthOf final.seg < so
    let v : State := { s with route := { entries := plan.kept ++ t.entries, stop := stop, armed := stop.isSome } }
    ∃ u : State, s.writeRoute p plan received = (u, some
        { status := if t.cut.isSome then .doneCut else if clamped then .doneClamped else .done,
          data := routeData (plan.already + t.entries.length) t.cut }) ∧
      u.guide = u.guidance ∧ (t.cut.isSome = true → u.flag .routeCut = true) ∧
      u = (v.raiseIf t.cut.isSome .routeCut).reportRoute ∧ ReportFrame v u ∧ ArrivalTest v u := by
  intro final stop clamped v
  have hwrite : s.writeRoute p plan received = ((v.raiseIf t.cut.isSome .routeCut).reportRoute, some
      { status := if t.cut.isSome then .doneCut else if clamped then .doneClamped else .done,
        data := routeData (plan.already + t.entries.length) t.cut }) := by
    simp only [State.writeRoute, ht, State.routeStop_eq hsp hso, hso, Option.isNone_some, Bool.false_eq_true, if_false]
    rfl
  have hreport := (v.raiseIf t.cut.isSome .routeCut).reportRoute_frame
  refine ⟨_, hwrite, State.reportRoute_current _, fun hcut => hreport.flags .routeCut ?_, rfl,
    (v.raiseIf_frame _ _).trans hreport, ArrivalTest.of_raise (c := t.cut.isSome) (e := .routeCut) nofun (State.reportRoute_test _)⟩
  rw [State.flag_raiseIf, hcut]
  simp

/-! ### The plan (R44 to R47) -/

theorem State.planRoute_whole {s : State} {p : RouteParams} (hm : p.mode = 0) (hq : s.pos.quality = .none) :
    s.planRoute p = s.planWhole (p.sign.getD 0) p.ids := by
  simp only [State.planRoute, if_pos hm, hq]

theorem State.planRoute_anchored {s : State} {p : RouteParams} {i : Nat} (hm : p.mode = 0) (hq : s.pos.quality ≠ .none)
    (hi : s.pos.index = some i) : s.planRoute p = s.planAnchored i (p.sign.getD 0) p.ids := by
  rw [State.planRoute, if_pos hm, hi]
  cases h : s.pos.quality with
  | none => exact absurd h hq
  | doubtful => rfl
  | good => rfl

theorem exec_route {i : Instr} {vals : List Nat} {s : State} (hport : PortFree s)
    (hst : s.ctl.state = .joining ∨ s.ctl.state = .run) (hc : commandOf i = some (.route, vals)) :
    exec i s = .next ((ownRoute vals s).1.queueReply (ownRoute vals s).2) :=
  exec_taken i .route vals s hport hc ((StationState.works_iff _).mpr hst)

theorem ownRoute_refused {mode : Nat} {rest : List Nat} {p : RouteParams} (s : State) (hp : readRoute mode rest = p)
    (hbad : p.valuesOk = false) : ownRoute (mode :: rest) s = s.refuse .refusedValue := by
  rw [ownRoute_eq mode rest s p hp, if_pos hbad]

theorem ownRoute_unplanned {mode : Nat} {rest : List Nat} {p : RouteParams} {s : State} {st : Status}
    (hp : readRoute mode rest = p) (hok : p.valuesOk = true) (hids : p.ids ≠ []) (h : s.planRoute p = .error st) :
    ownRoute (mode :: rest) s = s.refuse st := by
  rw [ownRoute_eq mode rest s p hp, if_neg (by simp [hok]), if_neg hids, h]

theorem ownRoute_planned {mode : Nat} {rest : List Nat} {p : RouteParams} {s : State} {plan : RoutePlan}
    (hp : readRoute mode rest = p) (hok : p.valuesOk = true) (hids : p.ids ≠ []) (h : s.planRoute p = .ok plan) :
    ownRoute (mode :: rest) s = s.writeRoute p plan (rest.length + 1) := by
  rw [ownRoute_eq mode rest s p hp, if_neg (by simp [hok]), if_neg hids, h]

/-- ROUTE's parameters, complete. -/
def replaceParams (sign sp so : Nat) (ids : List Nat) : RouteParams :=
  { mode := 0, sign := some sign, count := some ids.length, ids := ids, stopPresent := some sp, stopOffset := some so }

def appendParams (sp so : Nat) (ids : List Nat) : RouteParams :=
  { mode := 1, sign := none, count := some ids.length, ids := ids, stopPresent := some sp, stopOffset := some so }

theorem readRoute_replace (sign sp so : Nat) (ids : List Nat) :
    readRoute 0 (sign :: ids.length :: (ids ++ [sp, so])) = replaceParams sign sp so ids :=
  (readRoute_ids 0 sign ids.length ids [sp, so] (.inr rfl)).1

theorem readRoute_append (sp so : Nat) (ids : List Nat) :
    readRoute 1 (ids.length :: (ids ++ [sp, so])) = appendParams sp so ids :=
  (readRoute_ids 1 0 ids.length ids [sp, so] (.inr rfl)).2 Nat.one_ne_zero

theorem replaceParams_ok {sign sp so : Nat} {ids : List Nat} :
    (replaceParams sign sp so ids).valuesOk = true ↔ sign ≤ 1 ∧ ids ≠ [] ∧ sp ≤ 1 := by
  simp only [RouteParams.valuesOk, Bool.and_eq_true, decide_eq_true_eq]
  simp [replaceParams, and_assoc]

theorem appendParams_ok {sp so : Nat} {ids : List Nat} : (appendParams sp so ids).valuesOk = true ↔ ids ≠ [] ∧ sp ≤ 1 := by
  simp only [RouteParams.valuesOk, Bool.and_eq_true, decide_eq_true_eq]
  simp [appendParams]

/-- Settles O25: the refusals, the whole route and the anchored one. -/
theorem routeReplaceWrites : Obligations.RouteReplaceWrites := by
  refine ⟨fun s => rfl, fun s sign sp so id ids hport hst => ?_⟩
  intro sg counts written
  have hcounts (n : Nat) (cut : Option (CutReason × Nat)) : counts n cut = routeData n cut := by
    rw [routeData_eq]
    obtain _ | ⟨_ | _ | _, pos⟩ := cut <;> rfl
  have hrow (l : List Nat) : exec (.routeReplace sign l sp so) s = _ :=
    exec_route (vals := 0 :: sign :: l.length :: (l ++ [sp, so])) hport hst rfl
  have hread (l : List Nat) := readRoute_replace sign sp so l
  have hwritten (plan : RoutePlan) (keep : List RouteEntry) (hsign : sign ≤ 1) (hsp : sp ≤ 1)
      (hplan : s.planRoute (replaceParams sign sp so (id :: ids)) = .ok plan) (hkept : plan.kept = keep ++ [plan.last])
      (halready : plan.already = 1) : written keep plan.last (takeIds s.map plan.room 2 plan.last plan.ids) := by
    have hroute := ownRoute_planned (hread (id :: ids)) (replaceParams_ok.mpr ⟨hsign, nofun, hsp⟩) nofun hplan
    obtain ⟨u, hw, hguide, hcut, hu, hframe, htest⟩ := s.writeRoute_spec plan
      ((sign :: (id :: ids).length :: ((id :: ids) ++ [sp, so])).length + 1) (p := replaceParams sign sp so (id :: ids)) rfl rfl
      (takeIds s.map plan.room 2 plan.last plan.ids) (by rw [halready])
    rw [hkept, List.append_assoc] at hu hframe htest
    refine ⟨u, ?_, hguide, hcut, hu, hframe, htest⟩
    rw [hrow, hroute, hw, halready, Nat.add_comm 1, hcounts]
    rfl
  refine ⟨fun hbad => ?_, ?_, fun hsign hsp hq => ⟨fun habs => ?_, fun hpres => ?_⟩, fun hsign hsp hq i cur hi hcur =>
    ⟨fun hno => ?_, fun hid hsg => ?_⟩⟩
  · rw [hrow, ownRoute_refused s (hread (id :: ids)) (Bool.eq_false_iff.mpr fun h => ?_)]
    · rfl
    · obtain ⟨h1, -, h2⟩ := replaceParams_ok.mp h
      omega
  · rw [hrow, ownRoute_refused s (hread []) (Bool.eq_false_iff.mpr fun h => (replaceParams_ok.mp h).2.1 rfl)]
    rfl
  · have hplan : s.planRoute (replaceParams sign sp so (id :: ids)) = .error .refusedValue :=
      (State.planRoute_whole rfl hq).trans (if_neg (by simp [habs]))
    rw [hrow, ownRoute_unplanned (hread (id :: ids)) (replaceParams_ok.mpr ⟨hsign, nofun, hsp⟩) nofun hplan]
    rfl
  · exact hwritten _ [] hsign hsp ((State.planRoute_whole rfl hq).trans (if_pos hpres)) rfl rfl
  · have hplan : s.planRoute (replaceParams sign sp so (id :: ids)) = .error .notHere := by
      rw [State.planRoute_anchored rfl hq hi]
      simp only [State.planAnchored, replaceParams, hcur]
      exact if_neg fun h => hno.elim (fun hn => hn h.1) fun hn => hn h.2
    rw [hrow, ownRoute_unplanned (hread (id :: ids)) (replaceParams_ok.mpr ⟨hsign, nofun, hsp⟩) nofun hplan]
    rfl
  · have hplan : s.planRoute (replaceParams sign sp so (id :: ids)) = .ok
        { kept := s.route.entries.take (i + 1), ids := ids, room := 32 - (i + 1), already := 1, last := cur } := by
      rw [State.planRoute_anchored rfl hq hi]
      simp only [State.planAnchored, replaceParams, hcur]
      exact if_pos ⟨hid, hsg⟩
    refine hwritten _ (s.route.entries.take i) hsign hsp hplan ?_ rfl
    rw [List.take_add_one, hcur]
    rfl

/-- Settles O26: the refusals and the ids after the last entry. -/
theorem routeAppendWrites : Obligations.RouteAppendWrites := by
  intro s sp so ids hport hst counts
  have hcounts (n : Nat) (cut : Option (CutReason × Nat)) : counts n cut = routeData n cut := by
    rw [routeData_eq]
    obtain _ | ⟨_ | _ | _, pos⟩ := cut <;> rfl
  have hrow : exec (.routeAppend ids sp so) s = _ := exec_route (vals := 1 :: ids.length :: (ids ++ [sp, so])) hport hst rfl
  have hread := readRoute_append sp so ids
  refine ⟨fun hbad => ?_, fun hsp hids hnil => ?_, fun hsp hids last hlast => ?_⟩
  · rw [hrow, ownRoute_refused s hread (Bool.eq_false_iff.mpr fun h => ?_)]
    · rfl
    · obtain ⟨h1, h2⟩ := appendParams_ok.mp h
      exact hbad.elim (fun hb => absurd hb (Nat.not_lt.mpr h2)) h1
  · have hplan : s.planRoute (appendParams sp so ids) = .error .notHere := by
      simp only [State.planRoute, appendParams, Nat.one_ne_zero, if_false, State.planAppend, hnil, List.getLast?_nil]
    rw [hrow, ownRoute_unplanned hread (appendParams_ok.mpr ⟨hids, hsp⟩) hids hplan]
    rfl
  · intro t final stop clamped
    have hplan : s.planRoute (appendParams sp so ids) = .ok
        { kept := s.route.entries, ids := ids, room := 32 - s.route.entries.length, already := 0, last := last } := by
      simp only [State.planRoute, appendParams, Nat.one_ne_zero, if_false, State.planAppend, hlast]
      rfl
    obtain ⟨u, hw, hspec⟩ := s.writeRoute_spec
      { kept := s.route.entries, ids := ids, room := 32 - s.route.entries.length, already := 0, last := last }
      ((ids.length :: (ids ++ [sp, so])).length + 1) (p := appendParams sp so ids) rfl rfl t rfl
    refine ⟨u, ?_, hspec⟩
    rw [hrow, ownRoute_planned hread (appendParams_ok.mpr ⟨hids, hsp⟩) hids hplan, hw, Nat.zero_add, hcounts]
    rfl

end Sys2Proof.Machine
end

section
/-! PROOFS. Tag fixes (2.3, 2.4; O38): the centre's route distance, where a tag is located, and the fix decided. -/

namespace Sys2Proof.Machine

/-! ### The centre (R23) -/

theorem startOf_next {m : MapStore} {l : List RouteEntry} {k : Nat} {e : RouteEntry} (h : l[k]? = some e) :
    startOf m l (k + 1) = startOf m l k + m.lengthOf e.seg := by
  simp [startOf, List.take_add_one, h]

theorem State.centre_at {s : State} {k : Nat} {e : RouteEntry} (hq : s.pos.quality ≠ .none) (hi : s.pos.index = some k)
    (he : s.route.entries[k]? = some e) : s.centre = some (startOf s.map s.route.entries k + s.pos.offset) := by
  rw [State.centre, s.currentSpan_eq, if_neg hq, hi, Option.bind_some, s.spans_getElem?, he]
  rfl

theorem State.centre_none {s : State} (h : s.pos.quality = .none ∨ s.pos.index = none) : s.centre = none := by
  rw [State.centre, s.currentSpan_eq]
  obtain h | h := h
  · rw [if_pos h]
    rfl
  · rw [h]
    split <;> rfl

/-! ### Where a tag is located (R29) -/

/-- Span a is as near the current index as b, at a tie no farther back. -/
def AsNear (cur : Nat) (a b : Span) : Prop :=
  ((a.index : Int) - cur).natAbs < ((b.index : Int) - cur).natAbs ∨
    ((a.index : Int) - cur).natAbs = ((b.index : Int) - cur).natAbs ∧ b.index ≤ a.index

theorem nearerSpan_iff (cur : Nat) (a b : Span) : nearerSpan cur a b = true ↔ AsNear cur a b ∧ a.index ≠ b.index := by
  simp only [nearerSpan, AsNear, Bool.or_eq_true, Bool.and_eq_true, decide_eq_true_eq, beq_iff_eq]
  omega

theorem AsNear.trans {cur : Nat} {a b c : Span} (h : AsNear cur a b) (k : AsNear cur b c) : AsNear cur a c := by
  simp only [AsNear] at *
  omega

theorem AsNear.total (cur : Nat) (a b : Span) : AsNear cur a b ∨ AsNear cur b a := by
  simp only [AsNear]
  omega

theorem AsNear.antisymm {cur : Nat} {a b : Span} (h : AsNear cur a b) (k : AsNear cur b a) : a.index = b.index := by
  simp only [AsNear] at *
  omega

theorem nearestSpan_none {cur : Nat} {l : List Span} (h : nearestSpan cur l = none) : l = [] := by
  cases l with
  | nil => rfl
  | cons p rest =>
    rw [nearestSpan] at h
    split at h
    · exact nomatch h
    · split at h <;> exact nomatch h

theorem nearestSpan_spec {cur : Nat} {l : List Span} {r : Span} (h : nearestSpan cur l = some r) :
    r ∈ l ∧ ∀ x ∈ l, AsNear cur r x := by
  induction l generalizing r with
  | nil => exact nomatch h
  | cons p rest ih =>
    have hself (x : Span) : AsNear cur x x := .inr ⟨rfl, Nat.le_refl _⟩
    rw [nearestSpan] at h
    cases hrest : nearestSpan cur rest with
    | none =>
      rw [hrest] at h
      obtain rfl := Option.some.inj h
      rw [nearestSpan_none hrest]
      exact ⟨List.mem_cons_self, fun x hx => List.mem_singleton.mp hx ▸ hself p⟩
    | some q =>
      simp only [hrest] at h
      obtain ⟨hq, hnear⟩ := ih hrest
      by_cases hqp : AsNear cur q p ∧ q.index ≠ p.index
      · rw [if_pos ((nearerSpan_iff cur q p).mpr hqp)] at h
        obtain rfl := Option.some.inj h
        exact ⟨List.mem_cons_of_mem _ hq, List.forall_mem_cons.mpr ⟨hqp.1, hnear⟩⟩
      · rw [if_neg (mt (nearerSpan_iff cur q p).mp hqp)] at h
        obtain rfl := Option.some.inj h
        have hp : AsNear cur p q := (AsNear.total cur p q).elim id fun hback => by
          have heq : q.index = p.index := by_contra fun hne => hqp ⟨hback, hne⟩
          exact .inr ⟨by rw [heq], heq.le⟩
        exact ⟨List.mem_cons_self, List.forall_mem_cons.mpr ⟨hself p, fun x hx => hp.trans (hnear x hx)⟩⟩

/-- Route entry j carries the segment and lies in the route window (R29). -/
def State.Carries (s : State) (seg j : Nat) : Prop :=
  (∃ x, s.route.entries[j]? = some x ∧ x.seg = seg) ∧ ∀ cur, s.pos.index = some cur → j ≤ cur + 2

/-- The spans of the window that carry a segment. -/
def State.windowSpans (s : State) (seg : Nat) : List Span :=
  match s.pos.index with
  | none => s.spans.filter (·.seg == seg)
  | some cur => s.spans.filter (fun p => p.seg == seg && decide (p.index ≤ cur + 2))

theorem State.mem_windowSpans {s : State} {seg : Nat} {p : Span} :
    p ∈ s.windowSpans seg ↔ s.spans[p.index]? = some p ∧ s.Carries seg p.index := by
  have hmem : p ∈ s.spans ↔ s.spans[p.index]? = some p := by
    refine ⟨fun h => ?_, List.mem_of_getElem?⟩
    obtain ⟨i, hi⟩ := List.mem_iff_getElem?.mp h
    have : p.index = i := by
      rw [s.spans_getElem?] at hi
      obtain ⟨e, -, rfl⟩ := Option.map_eq_some_iff.mp hi
      rfl
    rw [this, hi]
  have hseg (h : s.spans[p.index]? = some p) : (∃ x, s.route.entries[p.index]? = some x ∧ x.seg = seg) ↔ p.seg = seg := by
    rw [s.spans_getElem?] at h
    obtain ⟨e, he, hp⟩ := Option.map_eq_some_iff.mp h
    rw [he]
    have : p.seg = e.seg := by rw [← hp]
    simp [this]
  unfold State.windowSpans State.Carries
  cases s.pos.index with
  | none =>
    simp only [List.mem_filter, beq_iff_eq, hmem, reduceCtorEq, false_imp_iff, implies_true, and_true]
    exact and_congr_right fun h => (hseg h).symm
  | some cur =>
    simp only [List.mem_filter, Bool.and_eq_true, beq_iff_eq, decide_eq_true_eq, hmem, Option.some.injEq, forall_eq']
    exact and_congr_right fun h => and_congr (hseg h).symm Iff.rfl

theorem State.windowEntry_eq (s : State) (seg : Nat) : s.windowEntry seg = match s.pos.index with
    | none => (s.windowSpans seg).head?
    | some cur => nearestSpan cur (s.windowSpans seg) := by
  unfold State.windowEntry State.windowSpans
  cases s.pos.index <;> rfl

theorem State.windowEntry_none {s : State} {seg : Nat} (h : ∀ j, ¬ s.Carries seg j) : s.windowEntry seg = none := by
  have hnil : s.windowSpans seg = [] := List.eq_nil_iff_forall_not_mem.mpr fun p hp => h _ (State.mem_windowSpans.mp hp).2
  rw [s.windowEntry_eq, hnil]
  cases s.pos.index <;> rfl

theorem State.spans_indexed (s : State) : s.spans.Pairwise (fun a b => a.index < b.index) := by
  have hindex (i : Nat) (hi : i < s.spans.length) : s.spans[i].index = i := by
    have h := s.spans_getElem? i
    rw [List.getElem?_eq_getElem hi] at h
    obtain ⟨e, -, he⟩ := Option.map_eq_some_iff.mp h.symm
    rw [← he]
  refine List.pairwise_iff_getElem.mpr fun i j hi hj hij => ?_
  rwa [hindex i hi, hindex j hj]

/-- The entry found carries the segment, and is the lowest, or the nearest of those that do (R29). -/
theorem State.windowEntry_some {s : State} {seg : Nat} {p : Span} (h : s.windowEntry seg = some p) :
    s.spans[p.index]? = some p ∧ s.Carries seg p.index ∧
      (s.pos.index = none → ∀ q ∈ s.windowSpans seg, p.index ≤ q.index) ∧
      ∀ cur, s.pos.index = some cur → ∀ q ∈ s.windowSpans seg, AsNear cur p q := by
  rw [s.windowEntry_eq] at h
  cases hi : s.pos.index with
  | none =>
    rw [hi] at h
    obtain ⟨rest, hl⟩ := List.head?_eq_some_iff.mp h
    obtain ⟨hp, hc⟩ := State.mem_windowSpans.mp (hl ▸ List.mem_cons_self : p ∈ s.windowSpans seg)
    have hordered : (s.windowSpans seg).Pairwise (fun a b => a.index < b.index) := by
      unfold State.windowSpans
      rw [hi]
      exact s.spans_indexed.filter _
    refine ⟨hp, hc, fun _ q hq => ?_, nofun⟩
    rw [hl] at hq hordered
    obtain rfl | hq := List.mem_cons.mp hq
    · exact Nat.le_refl _
    · exact Nat.le_of_lt (List.rel_of_pairwise_cons hordered hq)
  | some cur =>
    rw [hi] at h
    obtain ⟨hmem, hnear⟩ := nearestSpan_spec h
    obtain ⟨hp, hc⟩ := State.mem_windowSpans.mp hmem
    refine ⟨hp, hc, nofun, fun cur' hcur => ?_⟩
    obtain rfl := Option.some.inj hcur
    exact hnear

theorem State.windowEntry_at {s : State} {seg k : Nat} {p : Span} (hk : s.Carries seg k) (hp : s.spans[k]? = some p)
    (hlow : s.pos.index = none → ∀ j, s.Carries seg j → k ≤ j)
    (hnear : ∀ cur, s.pos.index = some cur → ∀ j, s.Carries seg j →
      ((k : Int) - cur).natAbs < ((j : Int) - cur).natAbs ∨ ((k : Int) - cur).natAbs = ((j : Int) - cur).natAbs ∧ j ≤ k) :
    s.windowEntry seg = some p := by
  have hindex : p.index = k := by
    rw [s.spans_getElem?] at hp
    obtain ⟨e, -, rfl⟩ := Option.map_eq_some_iff.mp hp
    rfl
  have hmem : p ∈ s.windowSpans seg := State.mem_windowSpans.mpr (by rw [hindex]; exact ⟨hp, hk⟩)
  obtain ⟨r, hr⟩ : ∃ r, s.windowEntry seg = some r := by
    refine Option.ne_none_iff_exists'.mp fun hnone => ?_
    rw [s.windowEntry_eq] at hnone
    have hnil : s.windowSpans seg = [] := by
      cases hi : s.pos.index with
      | none => rw [hi] at hnone; exact List.head?_eq_none_iff.mp hnone
      | some cur => rw [hi] at hnone; exact nearestSpan_none hnone
    rw [hnil] at hmem
    exact nomatch hmem
  obtain ⟨hspan, hc, hfirst, hnearest⟩ := State.windowEntry_some hr
  have hsame : r.index = k := by
    cases hi : s.pos.index with
    | none => exact Nat.le_antisymm (hindex ▸ hfirst hi p hmem) (hlow hi _ hc)
    | some cur =>
      have hback : AsNear cur p r := by
        rw [AsNear, hindex]
        exact hnear cur hi _ hc
      exact ((hnearest cur hi p hmem).antisymm hback).trans hindex
  rw [hr, ← hspan, hsame, hp]

theorem State.tagDistance_eq (s : State) (p : Span) (t : Tag) : s.tagDistance p t =
    p.start + (if p.sign = .plus then (t.offset : Int) else s.map.lengthOf p.seg - t.offset) := by
  unfold State.tagDistance
  cases p.sign <;> rfl

theorem State.fixPosition_entry {s : State} {t : Tag} {off : Int} {p : Span} (h : s.windowEntry t.segment = some p) :
    let fix : Int := if s.ctl.orientation = .along then s.tagDistance p t + off else s.tagDistance p t - off
    s.fixPosition t off = if 0 ≤ fix ∧ fix ≤ s.routeLength then some fix else none := by
  simp only [State.fixPosition, h]
  cases s.ctl.orientation <;> rfl

theorem State.fixPosition_none {s : State} {t : Tag} {off : Int} (h : s.windowEntry t.segment = none) :
    s.fixPosition t off = none := by
  simp only [State.fixPosition, h]

/-- A tag's fix position on a window entry, with the reader offset, or out of the route (R29). -/
theorem State.fixPosition_at {s : State} {t : Tag} {off : Int} {k : Nat} {e : RouteEntry}
    (hk : s.Carries t.segment k) (he : s.route.entries[k]? = some e)
    (hentry : s.windowEntry t.segment = s.spans[k]?) :
    let along : Int := startOf s.map s.route.entries k +
      (if e.sign = .plus then (t.offset : Int) else s.map.lengthOf t.segment - t.offset)
    let fix : Int := if s.ctl.orientation = .along then along + off else along - off
    s.fixPosition t off = if 0 ≤ fix ∧ fix ≤ s.routeLength then some fix else none := by
  intro along fix
  obtain ⟨⟨x, hx, hseg⟩, -⟩ := hk
  obtain rfl := Option.some.inj (he.symm.trans hx)
  rw [s.spans_getElem?, he] at hentry
  have hdistance (p : Span) (hp : p.start = startOf s.map s.route.entries k) (hs : p.sign = e.sign) (hg : p.seg = t.segment) :
      s.tagDistance p t = along := by
    rw [s.tagDistance_eq, hp, hs, hg]
  have hfix := State.fixPosition_entry (off := off) hentry
  rw [hdistance _ rfl rfl hseg] at hfix
  exact hfix

/-! ### Where a fix is placed (R29, R30, R32) -/

/-- The record with the centre placed on entry j (R30, R32). -/
def State.fixed (j o : Nat) (s : State) : State :=
  { s with
    pos := { s.pos with index := some j, offset := o, quality := .good, rejects := 0, sinceFix := 0,
                        lastError := none, accepted := min (s.pos.accepted + 1) 65535 },
    odo := { s.odo with residue := 0 } }

theorem State.acceptFix_places {s : State} {fix : Int} (h0 : 0 ≤ fix) (hlen : fix ≤ s.routeLength) (hne : s.route.entries ≠ []) :
    ∃ (j o : Nat) (p : Span), s.spans[j]? = some p ∧ p.start + (o : Nat) = fix ∧ fix ≤ p.stop ∧
      (∀ k q, k < j → s.spans[k]? = some q → q.stop < fix) ∧ s.acceptFix fix = s.fixed j o := by
  have hspan {k : Nat} {q : Span} (h : s.spans[k]? = some q) : q.index = k ∧ q.start = startOf s.map s.route.entries k ∧
      q.stop = startOf s.map s.route.entries (k + 1) := by
    rw [s.spans_getElem?] at h
    obtain ⟨e, he, rfl⟩ := Option.map_eq_some_iff.mp h
    exact ⟨rfl, rfl, (startOf_next he).symm⟩
  obtain ⟨p, hp⟩ : ∃ p, s.spans.find? (fun p => decide (fix ≤ p.stop)) = some p := by
    refine Option.isSome_iff_exists.mp (List.find?_isSome.mpr ?_)
    have hpos := List.length_pos_iff.mpr hne
    have hlast : s.route.entries.length - 1 < s.spans.length := by rw [s.spans_length]; omega
    refine ⟨s.spans[s.route.entries.length - 1], List.getElem_mem hlast, ?_⟩
    obtain ⟨-, -, hstop⟩ := hspan (List.getElem?_eq_getElem hlast)
    rw [hstop, Nat.sub_add_cancel hpos, ← s.routeLength_eq]
    exact decide_eq_true hlen
  obtain ⟨hstop, pre, post, hsplit, hpre⟩ := List.find?_eq_some_iff_append.mp hp
  have hp_at : s.spans[pre.length]? = some p := by simp [hsplit]
  have hbefore (k : Nat) (q : Span) (hk : k < pre.length) (hq : s.spans[k]? = some q) : q.stop < fix := by
    rw [hsplit, List.getElem?_append_left hk] at hq
    simpa using hpre q (List.mem_of_getElem? hq)
  obtain ⟨hindex, hstart, -⟩ := hspan hp_at
  have hfrom : p.start ≤ fix := by
    rw [hstart]
    cases hj : pre.length with
    | zero => exact h0
    | succ j =>
      have hj' : j < s.spans.length := by
        have := (List.getElem?_eq_some_iff.mp hp_at).1
        omega
      obtain ⟨-, -, hq⟩ := hspan (List.getElem?_eq_getElem hj')
      exact hq ▸ Int.le_of_lt (hbefore j _ (by omega) (List.getElem?_eq_getElem hj'))
  refine ⟨pre.length, (fix - p.start).toNat, p, hp_at, by omega, by simpa using hstop, hbefore, ?_⟩
  simp only [State.acceptFix, hp, hindex]
  rfl

/-! ### A fix decided (R30 to R34) -/

/-- The record with a fix rejected: its error kept where it has one, and GOOD lost at the third rejection in a row (R33). -/
def State.rejected (err : Option Int) (s : State) : State :=
  { s with pos := { s.pos with
      rejected := min (s.pos.rejected + 1) 65535, rejects := min 255 (s.pos.rejects + 1),
      lastError := match err with
        | some e => some e
        | none => s.pos.lastError,
      quality := if s.pos.quality = .good ∧ 2 ≤ s.pos.rejects then .doubtful else s.pos.quality } }

theorem State.rejectFix_spec (err : Option Int) (s : State) : s.rejectFix err =
    if s.pos.quality = .good ∧ 2 ≤ s.pos.rejects then (s.rejected err).raise .qualityDrop else s.rejected err := by
  have hthird : 3 ≤ min 255 (s.pos.rejects + 1) ↔ 2 ≤ s.pos.rejects := by omega
  unfold State.rejectFix State.rejected
  simp only [State.dropQuality, hthird, Bool.and_eq_true, decide_eq_true_eq, beq_iff_eq]
  by_cases h : s.pos.quality = .good ∧ 2 ≤ s.pos.rejects
  · rw [if_pos h, if_pos h.symm, if_pos h]
    rfl
  · rw [if_neg h, if_neg fun hh => h hh.symm, if_neg h]
    rfl

/-- The report of a record v that was p's before (R27, R28). -/
def Reports (p v u : State) : Prop :=
  (v.pos.reported = p.pos.reported → u = v) ∧ (v.pos.reported ≠ p.pos.reported → u = v.reportPosition)

theorem State.reportIf_reports (v s : State) :
    ReportFrame v (v.reportIf (decide (v.pos.reported ≠ s.pos.reported))) ∧
      Reports s v (v.reportIf (decide (v.pos.reported ≠ s.pos.reported))) := by
  obtain ⟨hframe, hsame, hmoved⟩ := v.reportIf_spec s rfl
  exact ⟨hframe, hsame, fun h => (hmoved h).2.2⟩

/-- The report of a rejected fix (R27, R33). -/
theorem State.rejectFix_reports (err : Option Int) (s : State) : ∃ u,
    (s.rejectFix err).reportIf (decide ((s.rejectFix err).pos.reported ≠ s.pos.reported)) = u ∧
      (s.pos.quality = .good ∧ 2 ≤ s.pos.rejects → u.flag .qualityDrop = true) ∧ ReportFrame (s.rejected err) u ∧
      Reports s (if s.pos.quality = .good ∧ 2 ≤ s.pos.rejects then (s.rejected err).raise .qualityDrop else s.rejected err) u := by
  obtain ⟨hframe, hreports⟩ := (s.rejectFix err).reportIf_reports s
  refine ⟨_, rfl, fun hdrops => hframe.flags .qualityDrop ?_, ReportFrame.trans ?_ hframe, ?_⟩
  · rw [s.rejectFix_spec, if_pos hdrops, State.flag_raise_eq]
    simp
  · rw [s.rejectFix_spec]
    split
    · exact State.raise_frame _ _
    · exact ReportFrame.refl _
  · rw [← s.rejectFix_spec]
    exact hreports

theorem State.decideFix_unplaced {s : State} {fix : Int} (h : s.centre = none) : s.decideFix fix = s.acceptFix fix := by
  simp only [State.decideFix, h]

theorem State.decideFix_placed {s : State} {fix c : Int} (h : s.centre = some c) : s.decideFix fix =
    if (fix - c).natAbs ≤ s.coring then s.coreFix
    else if (fix - c).natAbs ≤ s.jumpLimit ∨ s.confirms (fix - c) = true then s.acceptFix fix
    else s.rejectFix (some (fix - c)) := by
  simp only [State.decideFix, h]
  by_cases hcore : (fix - c).natAbs ≤ s.coring
  · rw [if_pos hcore, if_pos hcore]
  · by_cases hjump : (fix - c).natAbs ≤ s.jumpLimit <;> simp [hcore, hjump]

theorem State.confirms_iff (s : State) (err : Int) : s.confirms err = true ↔ s.pos.quality = .doubtful ∧
    ∃ last, s.pos.lastError = some last ∧ (err - last).natAbs ≤ s.confirmTolerance := by
  unfold State.confirms
  cases s.pos.lastError <;> simp

theorem State.takeFix_unknown {s : State} {tagId : Nat} {off : Int} (h : s.map.tag tagId = none) : s.takeFix tagId off =
    { s with pos := { s.pos with unknownTags := min (s.pos.unknownTags + 1) 65535 } } := by
  simp only [State.takeFix, h]
  rfl

theorem State.takeFix_lost {s : State} {tagId : Nat} {off : Int} {t : Tag} (h : s.map.tag tagId = some t)
    (hfix : s.fixPosition t off = none) : s.takeFix tagId off =
      (s.rejectFix none).reportIf (decide ((s.rejectFix none).pos.reported ≠ s.pos.reported)) := by
  simp only [State.takeFix, h, hfix]

theorem State.takeFix_located {s : State} {tagId : Nat} {off fix : Int} {t : Tag} (h : s.map.tag tagId = some t)
    (hfix : s.fixPosition t off = some fix) : s.takeFix tagId off =
      (s.decideFix fix).reportIf (decide ((s.decideFix fix).pos.reported ≠ s.pos.reported)) := by
  simp only [State.takeFix, h, hfix]

/-- A fix position lies on a route that is not empty (R29). -/
theorem State.fixPosition_onRoute {s : State} {t : Tag} {off fix : Int} (h : s.fixPosition t off = some fix) :
    0 ≤ fix ∧ fix ≤ s.routeLength ∧ s.route.entries ≠ [] := by
  cases hentry : s.windowEntry t.segment with
  | none =>
    rw [State.fixPosition_none hentry] at h
    exact nomatch h
  | some p =>
    rw [State.fixPosition_entry hentry] at h
    obtain ⟨⟨h0, hlen⟩, heq⟩ := Option.ite_none_right_eq_some.mp h
    obtain rfl := Option.some.inj heq
    refine ⟨h0, hlen, fun hnil => ?_⟩
    obtain ⟨hspan, -⟩ := State.windowEntry_some hentry
    rw [s.spans_getElem?, hnil] at hspan
    exact nomatch hspan

theorem State.tagRead_taken {s : State} {b1 b2 b3 b4 b5 : Byte} {tagId : Nat} {off : Int} {r : OpenRead}
    (hc : s.ctl.state ≠ .config) (hr : s.pins.reader = some r) (hbytes : r.bytes = []) (hgap : s.clock ≤ r.gapEnd)
    (hread : readTag b1 b2 b3 b4 b5 = some (tagId, off)) :
    s.tagRead b1 b2 b3 b4 b5 = (s.setReader none).takeRead tagId off :=
  (s.tagRead_open b1 b2 b3 b4 b5 r hr hgap hbytes).trans (State.endRead_taken (s := s.setReader none) hread hc)

/-- A fix accepted places the centre and is reported (R29, R30, R32). -/
theorem State.acceptFix_reports {s : State} {t : Tag} {off fix : Int} (hfix : s.fixPosition t off = some fix) :
    ∃ (j o : Nat) (p : Span), s.spans[j]? = some p ∧ p.start + (o : Nat) = fix ∧ fix ≤ p.stop ∧
      (∀ k q, k < j → s.spans[k]? = some q → q.stop < fix) ∧
      ReportFrame (s.fixed j o) ((s.acceptFix fix).reportIf (decide ((s.acceptFix fix).pos.reported ≠ s.pos.reported))) ∧
      Reports s (s.fixed j o) ((s.acceptFix fix).reportIf (decide ((s.acceptFix fix).pos.reported ≠ s.pos.reported))) := by
  obtain ⟨h0, hlen, hne⟩ := State.fixPosition_onRoute hfix
  obtain ⟨j, o, p, hp, ho, hstop, hbefore, haccept⟩ := State.acceptFix_places h0 hlen hne
  obtain ⟨hframe, hreports⟩ := (s.fixed j o).reportIf_reports s
  rw [haccept]
  exact ⟨j, o, p, hp, ho, hstop, hbefore, hframe, hreports⟩

/-- Settles O38: the places, then the read taken case by case. -/
theorem tagReadFix : Obligations.TagReadFix := by
  refine ⟨fun s k e => ?_, fun s b1 b2 b3 b4 b5 tagId off r hrun hc hr hbytes hgap hread => ?_⟩
  · refine ⟨fun hq hi he => State.centre_at hq hi he, State.centre_none, fun t off => ?_⟩
    intro carries distance along fix
    refine ⟨fun h => State.fixPosition_none (State.windowEntry_none h), fun hk he hlow hnear => ?_⟩
    have hentry : s.windowEntry t.segment = s.spans[k]? := by
      have hspan := s.spans_getElem? k
      rw [he] at hspan
      rw [State.windowEntry_at hk hspan hlow hnear, hspan]
      rfl
    have hfix := State.fixPosition_at (off := off) hk he hentry
    rw [s.routeLength_eq] at hfix
    exact hfix
  · intro row s0 s1 drops rejected flagged reported placed
    have hcredit : s1 = s0.reportIf (decide (s0.pos.reported ≠ s.pos.reported)) := rfl
    obtain ⟨hframe, hsame, hmoved⟩ := s0.reportIf_spec s hcredit.symm
    have hs0 : s0.map = s.map ∧ s0.ctl = s.ctl := by
      have h := State.credit_eq { s with pins := { s.pins with reader := none } }
      exact ⟨(congrArg State.map h :), (congrArg State.ctl h :)⟩
    have hmap : s1.map = s.map := hframe.map.trans hs0.1
    have htuning (i : Nat) : s1.tuning i = s.tuning i := by
      rw [State.tuning, State.tuning, State.tuningInt, State.tuningInt, hframe.ctl, hs0.2]
    have hrow : exec row s = .next (s1.takeFix tagId off) :=
      (exec_row (k := State.tagRead b1 b2 b3 b4 b5) hrun rfl).trans (congrArg _ (State.tagRead_taken hc hr hbytes hgap hread))
    have hcoring : s1.coring = s.coring := htuning 4
    have hjumps : s1.jumpLimit = s.jumpLimit := htuning 5
    clear_value s1
    rw [hrow]
    refine ⟨hframe, hsame, fun h => ⟨(hmoved h).1, (hmoved h).2.2⟩, fun h => ?_, fun t ht hfix => ?_, fun t fix ht hfix hcentre => ?_,
      fun t fix c ht hfix hcentre => ?_⟩
    · rw [State.takeFix_unknown (hmap ▸ h)]
    · rw [State.takeFix_lost (hmap ▸ ht) hfix]
      obtain ⟨u, hu, hdrop, hkeep, hrep⟩ := s1.rejectFix_reports none
      exact ⟨u, congrArg _ hu, hdrop, hkeep, hrep⟩
    · rw [State.takeFix_located (hmap ▸ ht) hfix, State.decideFix_unplaced hcentre]
      exact ⟨_, rfl, State.acceptFix_reports hfix⟩
    · intro err confirmed
      have hconfirmed : s1.confirms err = true ↔ confirmed := by
        rw [s1.confirms_iff, State.confirmTolerance, htuning]
        rfl
      rw [State.takeFix_located (hmap ▸ ht) hfix, State.decideFix_placed hcentre, hcoring, hjumps]
      refine ⟨fun hcore => ?_, fun hcore hok => ?_, fun hcore hjump hno => ?_⟩
      · rw [if_pos hcore]
        obtain ⟨hkeep, hrep⟩ := s1.coreFix.reportIf_reports s1
        exact ⟨_, rfl, hkeep, hrep⟩
      · rw [if_neg (Nat.not_le.mpr hcore), if_pos (hok.imp_right hconfirmed.mpr)]
        exact ⟨_, rfl, State.acceptFix_reports hfix⟩
      · rw [if_neg (Nat.not_le.mpr hcore), if_neg fun h => h.elim (Nat.not_le.mpr hjump) fun h => hno (hconfirmed.mp h)]
        obtain ⟨u, hu, hdrop, hkeep, hrep⟩ := s1.rejectFix_reports (some err)
        exact ⟨u, congrArg _ hu, hdrop, hkeep, hrep⟩

end Sys2Proof.Machine
end

section
/-! PROOFS. SET POSITION and LEAVE (2.6, 3.3, 6.8, 10.3; O24, O23): the Claim Unit's event over a list just cleared. -/

namespace Sys2Proof.Machine

/-! ### An event that hands nothing to the Route Queue -/

theorem releaseOrder_nil : releaseOrder [] = [] := rfl

/-- An event with an examination, no release and no trim. -/
theorem claimEvent_kept {own : State → State × List Claim} {s t : State} {r : State × List Claim} (hr : claimSteps (own s) = r)
    (hout : r.2 = []) (hw : r.1.working = true) (ht : r.1.examine.settleWait = t) (htrim : t.trim = t) :
    (claimEvent own true s).1 = t.reportLists := by
  unfold claimEvent
  dsimp only
  rw [hr, hout, hw, releaseOrder_nil]
  simp only [Bool.true_or, Bool.and_self, if_true, List.foldl_nil, ht, htrim, ite_self]

theorem State.trim_front (s : State) (h : s.pos.index = some 0) : s.trim = s := by
  obtain ⟨k, hk, htrim⟩ := s.trim_drops
  rw [h] at hk
  obtain rfl : k = 0 := Nat.le_zero.mp hk
  exact htrim.trans s.dropFront_zero

/-! ### A list of one entry on a route of one entry -/

theorem State.fillNext_none {s : State} {i : Nat} (hi : s.fillIndex = some i) (hlen : s.route.entries.length ≤ i) :
    s.fillNext = none := by
  have hspan : s.spans[i]? = none := List.getElem?_eq_none (by rw [s.spans_length]; exact hlen)
  unfold State.fillNext
  rw [hi]
  cases s.body with
  | none => rfl
  | some b => simp only [hspan]

theorem State.fill_stops {s : State} (h : s.fillNext = none) : s.fill = s := by
  rw [State.fill, fillRepeat, h]

theorem State.fillIndex_tied {s : State} {e : Claim} {i : Nat} (hl : s.claim.list = [e]) (ht : e.tie = .route i) :
    s.fillIndex = some (i + 1) := by
  have htied : lastTied [e] = some i := by simp [lastTied, ht]
  simp only [State.fillIndex, hl, htied]

theorem State.fill_tied {s : State} {e : Claim} (hl : s.claim.list = [e]) (ht : e.tie = .route 0)
    (h1 : s.route.entries.length = 1) : s.fill = s :=
  State.fill_stops (State.fillNext_none (State.fillIndex_tied hl ht) h1.le)

theorem State.testFaceOff_none {s : State} (h : ∀ w, firstWanted s.claim.list = some w → s.faceOffPeers w = []) :
    s.testFaceOff = { s with claim := { s.claim with faceOff := none } } := by
  have hnone : (firstWanted s.claim.list).bind (fun w => lowestKey (s.faceOffPeers w)) = none := by
    cases hw : firstWanted s.claim.list with
    | none => rfl
    | some w => rw [Option.bind_some, h w hw]; rfl
  simp only [State.testFaceOff, hnone]

/-- With no own HELD entry the face-off test finds no peer (R114). -/
theorem State.faceOffPeers_unheld {s : State} (w : Claim) (h : heldIds s.claim.list = []) : s.faceOffPeers w = [] := by
  refine List.filter_eq_nil_iff.mpr fun p _ => ?_
  rw [h]
  cases p.wanted <;> simp

/-- An examination without a WANTED entry clears the face-off record alone (R103, R114). -/
theorem State.examine_unwanted {s : State} (h : firstWanted s.claim.list = none) :
    s.examine = { s with claim := { s.claim with faceOff := none } } := by
  have hcascade : cascade Config.claimCapacity s = (s, false) := by
    change cascade (11 + 1) s = (s, false)
    rw [cascade, h]
  have htest : s.testFaceOff = { s with claim := { s.claim with faceOff := none } } :=
    State.testFaceOff_none fun w hw => nomatch h.symm.trans hw
  simp only [State.examine, hcascade, htest, Bool.false_and, Bool.false_eq_true, if_false]

/-- An examination of one WANTED entry promotes it or not; no face-off stands after it. -/
theorem State.examine_one {s : State} {e : Claim} (hl : s.claim.list = [e]) (ht : e.tie = .route 0)
    (h1 : s.route.entries.length = 1) (hw : e.isHeld = false) :
    s.examine = { s with claim := { s.claim with faceOff := none } } ∨
      s.examine = { s.setClaims [e.promoted] with claim := { (s.setClaims [e.promoted]).claim with faceOff := none } } := by
  have hfirst : firstWanted s.claim.list = some e := by simp [firstWanted, hl, hw]
  have hheld : heldIds s.claim.list = [] := by simp [heldIds, hl, hw]
  by_cases hp : s.promotes e = true
  · right
    have hlist : promoteFirst s.claim.list = [e.promoted] := by
      rw [hl]
      simp [promoteFirst, mapFirst, hw]
    have hafter : cascade 11 (s.setClaims [e.promoted]) = (s.setClaims [e.promoted], false) := by
      have : firstWanted (s.setClaims [e.promoted]).claim.list = none := rfl
      rw [cascade, this]
    have hcascade : cascade Config.claimCapacity s = (s.setClaims [e.promoted], true) := by
      change cascade (11 + 1) s = _
      rw [cascade, hfirst]
      simp only [hp, if_true, hlist, hafter]
    have htest := State.testFaceOff_none (s := s.setClaims [e.promoted]) nofun
    simp only [State.examine, hcascade, htest]
    split
    · exact State.fill_tied (e := e.promoted) rfl ht h1
    · rfl
  · left
    have hcascade : cascade Config.claimCapacity s = (s, false) := by
      change cascade (11 + 1) s = _
      rw [cascade, hfirst]
      simp only [hp, if_false, Bool.false_eq_true]
    have htest : s.testFaceOff = { s with claim := { s.claim with faceOff := none } } :=
      State.testFaceOff_none fun w _ => State.faceOffPeers_unheld w hheld
    simp only [State.examine, hcascade, htest, Bool.false_and, Bool.false_eq_true, if_false]

/-! ### Steps 2 to 4 over an empty list on a route of one entry -/

/-- The claim entry of a route entry that the body or filling takes up. -/
def Span.claim (st : ClaimState) (p : Span) : Claim :=
  { seg := p.seg, state := st, tie := .route p.index, spanStart := p.start, advertised := 0, waitStart := none }

theorem State.setClaims_nil {s : State} (hl : s.claim.list = []) (hd : s.claim.doubles = []) : s.setClaims [] = s := by
  obtain ⟨clock, choices, pins, map, odo, pos, route, link, sched, peers, claim, bays, guide, load, line, port, ctl, pending⟩ := s
  obtain ⟨list, prec, sat, clash, wait, faceOff, doubles, lastHeld, lastWanted⟩ := claim
  subst hl hd
  rfl

theorem State.releaseBehind_nil {s : State} (hl : s.claim.list = []) (hd : s.claim.doubles = []) : s.releaseBehind = (s, []) := by
  unfold State.releaseBehind
  cases s.body with
  | none => rfl
  | some b => simp only [hl, List.filter_nil, State.setClaims_nil hl hd]

/-- Occupancy of one route entry over an empty list (R105). -/
theorem State.occupyEntry_nil {s : State} (b : Body) (p : Span) (hl : s.claim.list = []) :
    State.occupyEntry b (s, []) p = ((s.setClaims [p.claim .held]).raiseIf (s.peerHolds p.seg) .occupyConflict, []) := by
  have hroom : s.makeRoom b = (s, []) := by
    rw [State.makeRoom, hl]
    exact if_pos (by decide)
  have hcap : capWanted [p.claim .held] = [p.claim .held] := rfl
  simp only [State.occupyEntry, hroom, hl, List.any_nil, Bool.false_eq_true, if_false, takeListed, insertClaim]
  exact congrArg (fun l => ((s.setClaims l).raiseIf (s.peerHolds p.seg) .occupyConflict, ([] : List Claim))) hcap

section
variable {s : State} {p : Span} {b : Body}

theorem State.occupy_nil (hl : s.claim.list = []) (hspans : s.spans = [p]) (hb : s.body = some b) :
    s.occupy = if b.on p.start p.stop = true
      then ((s.setClaims [p.claim .held]).raiseIf (s.peerHolds p.seg) .occupyConflict, []) else (s, []) := by
  simp only [State.occupy, hb, hspans, List.filter_cons, List.filter_nil]
  split
  · exact State.occupyEntry_nil b p hl
  · rfl

theorem State.fill_nil (hl : s.claim.list = []) (hspans : s.spans = [p]) (hp : p.index = 0) (hi : s.pos.index = some 0) :
    s.fill = s ∨ s.fill = s.setClaims [p.claim .wanted] := by
  have h1 : s.route.entries.length = 1 := by rw [← s.spans_length, hspans]; rfl
  cases hnext : s.fillNext with
  | none => exact .inl (State.fill_stops hnext)
  | some e =>
    right
    have hindex : s.fillIndex = some 0 := by simp only [State.fillIndex, hl, hi]; rfl
    have he : e = p.claim .wanted := by
      unfold State.fillNext at hnext
      rw [hindex] at hnext
      cases hb : s.body with
      | none => rw [hb] at hnext; exact nomatch hnext
      | some b =>
        simp only [hb, hspans, List.getElem?_cons_zero, Option.ite_none_right_eq_some, Option.some.injEq] at hnext
        rw [← hnext.2, Span.claim, hp]
    have hrest : State.fillNext (s.setClaims [e]) = none :=
      State.fillNext_none (State.fillIndex_tied (e := e) rfl (by rw [he, Span.claim, hp])) h1.le
    have hfill : s.fill = fillRepeat 4 (s.setClaims [e]) := by
      change fillRepeat (4 + 1) s = _
      rw [fillRepeat, hnext, hl]
      rfl
    rw [hfill, fillRepeat, hrest, he]

end

/-- What SET POSITION's event makes of the cleared list: the one entry HELD under the body, or a list of at most one WANTED
entry. -/
theorem claimSteps_seeded {s : State} {p : Span} {b : Body} (hw : s.working = true) (hq : s.placed = true)
    (hl : s.claim.list = []) (hd : s.claim.doubles = []) (hspans : s.spans = [p]) (hp : p.index = 0) (hi : s.pos.index = some 0)
    (hb : s.body = some b) : ∃ w, claimSteps (s, []) = (w, []) ∧
      if b.on p.start p.stop = true
        then w = (s.setClaims [p.claim .held]).raiseIf (s.peerHolds p.seg) .occupyConflict
        else w = s ∨ w = s.setClaims [p.claim .wanted] := by
  have hsteps (w : State) (h : s.occupy = (w, [])) : claimSteps (s, []) = (w.fill, []) := by
    simp only [claimSteps, hw, hq, Bool.and_self, if_true, State.releaseBehind_nil hl hd, h, List.append_nil]
  have hoccupy := State.occupy_nil hl hspans hb
  split at hoccupy
  · next hon =>
    refine ⟨_, hsteps _ hoccupy, ?_⟩
    rw [if_pos hon]
    have h1 : s.route.entries.length = 1 := by rw [← s.spans_length, hspans]; rfl
    refine State.fill_tied (e := p.claim .held) ?_ (by rw [Span.claim, hp]) ?_
    · cases s.peerHolds p.seg <;> rfl
    · cases s.peerHolds p.seg <;> exact h1
  · next hon =>
    refine ⟨_, hsteps _ hoccupy, ?_⟩
    rw [if_neg hon]
    exact State.fill_nil hl hspans hp hi

theorem State.reportLists_records (s : State) : s.reportLists.claim =
    { s.claim with lastHeld := heldIds s.claim.list, lastWanted := wantedIds s.claim.list } := by
  unfold State.reportLists
  split
  · next h => rw [h.1, h.2]
  · rw [State.listChange_claim]

/-- No double hold, no face-off and no wait mark. -/
structure ClearRecords (s : State) : Prop where
  doubles : s.claim.doubles = []
  faceOff : s.claim.faceOff = none
  waitReported : s.claim.waitReported = false

theorem ClearRecords.settleWait {s : State} (h : ClearRecords s) : ClearRecords s.settleWait := by
  refine ⟨h.doubles, h.faceOff, ?_⟩
  simp only [State.settleWait, h.waitReported, Bool.false_and]
  split <;> rfl

theorem ClearRecords.of_claim {s t : State} (h : ClearRecords s) (hd : t.claim.doubles = s.claim.doubles)
    (hf : t.claim.faceOff = s.claim.faceOff) (hw : t.claim.waitReported = s.claim.waitReported) : ClearRecords t :=
  ⟨hd.trans h.doubles, hf.trans h.faceOff, hw.trans h.waitReported⟩

/-- An examination after SET POSITION's steps leaves the records clear. -/
theorem ClearRecords.examine_one {s : State} {e : Claim} (h : ClearRecords s) (hl : s.claim.list = [e]) (ht : e.tie = .route 0)
    (h1 : s.route.entries.length = 1) (hw : e.isHeld = false) : ClearRecords s.examine := by
  obtain heq | heq := State.examine_one hl ht h1 hw <;> rw [heq]
  · exact ⟨h.doubles, rfl, h.waitReported⟩
  · exact ⟨by simp [h.doubles], rfl, h.waitReported⟩

theorem ClearRecords.examine_unwanted {s : State} (h : ClearRecords s) (hl : firstWanted s.claim.list = none) :
    ClearRecords s.examine := by
  rw [State.examine_unwanted hl]
  exact ⟨h.doubles, rfl, h.waitReported⟩

/-- SET POSITION's event over a cleared list: the records stay clear, and the entry under the body is the list. -/
theorem claimEvent_seeded {own : State → State × List Claim} {s0 s : State} {p : Span} {b : Body} (hown : own s0 = (s, []))
    (hw : s.working = true) (hq : s.placed = true) (hl : s.claim.list = []) (hr : ClearRecords s) (hspans : s.spans = [p])
    (hp : p.index = 0) (hi : s.pos.index = some 0) (hb : s.body = some b) :
    ClearRecords (claimEvent own true s0).1 ∧ (b.on p.start p.stop = true →
      (claimEvent own true s0).1.claim.list = [p.claim .held] ∧
      (claimEvent own true s0).1.flag .occupyConflict = (s.flag .occupyConflict || s.peerHolds p.seg)) := by
  obtain ⟨w, hsteps, hcase⟩ := claimSteps_seeded hw hq hl hr.doubles hspans hp hi hb
  have h1 : s.route.entries.length = 1 := by rw [← s.spans_length, hspans]; rfl
  have hframe : ReportFrame s w := by
    have h := claimSteps_frame (s, [])
    rwa [hsteps] at h
  have hworks : w.working = true := by rw [State.working, hframe.ctl]; exact hw
  have hmoves := (hframe.trans w.examine_frame).trans w.examine.settleWait_frame
  have hfront : w.examine.settleWait.trim = w.examine.settleWait := by
    refine State.trim_front _ ?_
    obtain ⟨k, -, hindex, hk⟩ := hmoves.consumed
    rw [hi] at hindex hk
    obtain rfl : k = 0 := Nat.le_zero.mp hk
    exact hindex
  have hevent := claimEvent_kept (own := own) (s := s0) (r := (w, [])) (hown ▸ hsteps) rfl hworks rfl hfront
  rw [hevent]
  have hclear : ClearRecords w.examine.settleWait.reportLists ↔ ClearRecords w.examine.settleWait :=
    ⟨fun h => h.of_claim (by rw [State.reportLists_records]) (by rw [State.reportLists_records]) (by rw [State.reportLists_records]),
     fun h => h.of_claim (by rw [State.reportLists_records]) (by rw [State.reportLists_records]) (by rw [State.reportLists_records])⟩
  rw [hclear]
  split at hcase
  · next hon =>
    have hlist : w.claim.list = [p.claim .held] := by rw [hcase]; cases s.peerHolds p.seg <;> rfl
    have hwr : ClearRecords w := by
      rw [hcase]
      refine ClearRecords.of_claim (s := s.setClaims [p.claim .held]) ⟨by simp [hr.doubles], hr.faceOff, hr.waitReported⟩ ?_ ?_ ?_ <;>
        cases s.peerHolds p.seg <;> rfl
    have hunwanted : firstWanted w.claim.list = none := by rw [hlist]; rfl
    refine ⟨(hwr.examine_unwanted hunwanted).settleWait, fun _ => ⟨?_, ?_⟩⟩
    · rw [State.reportLists_records, State.examine_unwanted hunwanted, State.settleWait]
      dsimp only
      rw [hlist]
      rfl
    · have hport : w.examine.settleWait.reportLists.port = w.port := by
        rw [State.reportLists_port, State.examine_unwanted hunwanted]
        rfl
      have hflag : w.examine.settleWait.reportLists.flag .occupyConflict = w.flag .occupyConflict := State.port_flagKept hport
      rw [hflag, hcase, State.flag_raiseIf]
      simp
      rfl
  · next hon =>
    refine ⟨ClearRecords.settleWait ?_, fun h => absurd h hon⟩
    obtain rfl | rfl := hcase
    · exact hr.examine_unwanted (by rw [hl]; rfl)
    · exact ClearRecords.examine_one (e := p.claim .wanted) ⟨by simp [hr.doubles], hr.faceOff, hr.waitReported⟩ rfl
        (by rw [Span.claim, hp]) h1 rfl

theorem State.peerHolds_iff (s : State) (seg : Nat) :
    s.peerHolds seg = true ↔ ∃ p ∈ s.peers.entries, ∃ h ∈ p.held, h ∈ s.map.conflictSet seg := by
  simp only [State.peerHolds, MapStore.conflictHit, List.any_eq_true, List.contains_iff_mem]
  constructor
  · rintro ⟨p, hp, h, hset, hheld⟩
    exact ⟨p, hp, h, hheld, hset⟩
  · rintro ⟨p, hp, h, hheld, hset⟩
    exact ⟨p, hp, h, hset, hheld⟩

/-! ### SET POSITION (O24) -/

theorem State.seed_eq (s : State) (seg off sign : Nat) : s.seed seg off (signOf sign) = { s with
    route := { entries := [{ seg := seg, sign := signOf sign }], stop := none, armed := false },
    pos := { s.pos with
      index := some 0,
      offset := if sign = 0 then min off (s.map.lengthOf seg) else s.map.lengthOf seg - min off (s.map.lengthOf seg),
      quality := .doubtful, rejects := 0, sinceFix := 0, lastError := none, formerOffset := off, formerSign := signOf sign },
    odo := { s.odo with residue := 0, uncredited := 0 } } := by
  by_cases h : sign = 0
  · simp only [State.seed, signOf, if_pos h]
  · simp only [State.seed, signOf, if_neg h]

/-- The one route entry of a seeded route (R53). -/
def seededSpan (m : MapStore) (seg : Nat) (sg : Sign) : Span :=
  { index := 0, seg := seg, sign := sg, start := 0, stop := m.lengthOf seg }

theorem State.seed_spans (s : State) (seg off : Nat) (sg : Sign) : (s.seed seg off sg).spans = [seededSpan s.map seg sg] := by
  simp [State.spans, State.seed, spansFrom, seededSpan]

theorem State.seed_body (s : State) (seg off : Nat) (sg : Sign) : ∃ o ≤ s.map.lengthOf seg,
    (s.seed seg off sg).body = some { front := (o : Int) + s.halfLength, rear := (o : Int) - s.halfLength } := by
  have hcentre : (s.seed seg off sg).centre = some ((s.seed seg off sg).pos.offset : Int) := by
    rw [State.centre_at (k := 0) (e := { seg := seg, sign := sg }) (show Quality.doubtful ≠ .none by decide) rfl rfl, startOf_zero, Int.zero_add]
  refine ⟨(s.seed seg off sg).pos.offset, ?_, ?_⟩
  · cases sg with
    | plus => exact Nat.min_le_right _ _
    | minus => exact Nat.sub_le _ _
  · rw [State.body, hcentre]
    rfl

/-- Settles O24: refused, or the route of one entry with the event over the list cleared. -/
theorem setPositionSeeds : Obligations.SetPositionSeeds := by
  intro s seg off sign hport hst
  have htaken := exec_taken (.setPosition seg off sign) .setPosition _ s hport rfl ((StationState.works_iff _).mpr hst)
  rw [Cmd.run, ownSetPosition_eq seg [off, sign] off sign s rfl rfl] at htaken
  rw [htaken]
  refine ⟨fun hbad => ?_, fun hpres hsign => ?_⟩
  · have hno : ¬ (s.map.present seg = true ∧ sign ≤ 1) := by
      rintro ⟨hpres, hsign⟩
      obtain hbad | hbad := hbad
      · exact nomatch hpres.symm.trans hbad
      · omega
    rw [if_neg hno]
    rfl
  · intro len sg
    rw [if_pos ⟨hpres, hsign⟩]
    have hseed := s.seed_eq seg off sign
    obtain ⟨o, ho, hbody⟩ := s.seed_body seg off (signOf sign)
    have hspans := s.seed_spans seg off (signOf sign)
    generalize hv : s.seed seg off (signOf sign) = v at hseed hbody hspans
    have hworks : v.working = true := by
      rw [State.working_iff, hseed]
      exact hst
    have hplaced : v.placed = true := by rw [hseed]; rfl
    have hindex : v.pos.index = some 0 := by rw [hseed]
    obtain ⟨hclear, hon⟩ := claimEvent_seeded (own := ownSeed) (s0 := v) (s := (ownSeed v).1) rfl hworks hplaced rfl
      ⟨rfl, rfl, rfl⟩ hspans rfl hindex hbody
    have hclaim : (v.guided (fun t => (claimEvent ownSeed true t).1)).claim = (claimEvent ownSeed true v).1.claim :=
      State.guided_claim _ _
    have hrecords := hclear.of_claim (t := v.guided (fun t => (claimEvent ownSeed true t).1)) (by rw [hclaim]) (by rw [hclaim])
      (by rw [hclaim])
    refine ⟨v.guided (fun t => (claimEvent ownSeed true t).1), rfl, State.guided_current _ _,
      ⟨hseed ▸ State.guidedEvent_frame (ownSeed_frame v), hseed ▸ rfl⟩, hrecords.doubles, hrecords.faceOff, hrecords.waitReported,
      fun hhalf hlen => ?_⟩
    have hover : Body.on { front := (o : Int) + s.halfLength, rear := (o : Int) - s.halfLength } 0 (s.map.lengthOf seg) = true := by
      simp only [Body.on, Bool.and_eq_true, decide_eq_true_eq]
      dsimp only [len] at hlen
      omega
    obtain ⟨hlist, hflag⟩ := hon hover
    refine ⟨by rw [hclaim, hlist]; rfl, ?_⟩
    have hguided : (v.guided (fun t => (claimEvent ownSeed true t).1)).flag .occupyConflict =
        (claimEvent ownSeed true v).1.flag .occupyConflict :=
      State.guided_flagKept (e := .occupyConflict) nofun (fun t => (claimEvent ownSeed true t).1) v
    have hbefore : (ownSeed v).1.flag .occupyConflict = s.flag .occupyConflict := by rw [hseed]; rfl
    have hheld : (ownSeed v).1.peerHolds seg = s.peerHolds seg := by rw [hseed]; rfl
    rw [hguided, hflag, hbefore, Bool.or_eq_true, ← s.peerHolds_iff]
    exact or_congr_right (by rw [← hheld]; rfl)

end Sys2Proof.Machine
end

section
/-! PROOFS. LEAVE and what departure leaves (4.7, 6.10, 9.2, 10.3; O23). -/

namespace Sys2Proof.Machine

/-! ### The parked test (R159) -/

theorem State.isPark_iff (s : State) (seg : Nat) : s.isPark seg = true ↔ ∃ g, s.map.segment seg = some g ∧ g.kind = .park := by
  unfold State.isPark
  cases s.map.segment seg <;> simp

theorem State.parked_iff (s : State) : s.parked = true ↔ ∃ b, s.body = some b ∧ 0 ≤ b.rear ∧ b.front ≤ s.routeLength ∧
    (∀ p ∈ s.spans, b.on p.start p.stop = true → ∃ g, s.map.segment p.seg = some g ∧ g.kind = .park) ∧
    (∀ e ∈ s.claim.list, e.tie = .detached → b.on e.spanStart (s.claimStop e) = true →
      ∃ g, s.map.segment e.seg = some g ∧ g.kind = .park) := by
  unfold State.parked
  cases s.body with
  | none => simp
  | some b =>
    simp only [Bool.and_eq_true, decide_eq_true_eq, List.all_eq_true, s.isPark_iff, State.routeUnder, State.detachedUnder,
      List.mem_filter, beq_iff_eq, Option.some.injEq, exists_eq_left', and_assoc, and_imp]

/-! ### The event of the change into LEAVING (R117) -/

theorem State.settleWait_nil {s : State} (h : s.claim.list = []) : s.settleWait = s := by
  obtain ⟨clock, choices, pins, map, odo, pos, route, link, sched, peers, claim, bays, guide, load, line, port, ctl, pending⟩ := s
  obtain ⟨list, prec, sat, clash, wait, faceOff, doubles, lastHeld, lastWanted⟩ := claim
  subst h
  rfl

/-- The list change report of an empty list out of JOINING and RUN: nothing is due (R115). -/
theorem State.reportLists_idle {s : State} (hw : s.working = false) (hl : s.claim.list = []) : ∃ x, s.reportLists =
    { s with claim := { s.claim with lastHeld := [], lastWanted := [] }, sched := { s.sched with pendingNotice := x } } := by
  have hheld : heldIds s.claim.list = [] := by rw [hl]; rfl
  have hwanted : wantedIds s.claim.list = [] := by rw [hl]; rfl
  by_cases h : heldIds s.claim.list = s.claim.lastHeld ∧ wantedIds s.claim.list = s.claim.lastWanted
  · refine ⟨s.sched.pendingNotice, ?_⟩
    have hlast : s = { s with claim := { s.claim with lastHeld := s.claim.lastHeld, lastWanted := s.claim.lastWanted } } := rfl
    rw [State.reportLists_same h.1 h.2]
    rw [← h.1, ← h.2, hheld, hwanted] at hlast
    exact hlast
  · refine ⟨false, (State.reportLists_changed (not_and_or.mp h)).trans ?_⟩
    rw [hheld, hwanted]
    exact State.listChange_idle (s := { s with claim := { s.claim with lastHeld := [], lastWanted := [] } }) hw

/-- The departed record: the claims cleared, route and place without the first k entries, a notice due or not. -/
def State.departed (k : Nat) (x : Bool) (s : State) : State :=
  { s with
    claim := { s.claim with list := [], doubles := [], faceOff := none, lastHeld := [], lastWanted := [] },
    route := { s.route with entries := s.route.entries.drop k },
    pos := { s.pos with index := s.pos.index.map (fun i => i - k) },
    sched := { s.sched with pendingNotice := x } }

theorem claimEvent_leaving {s : State} (hw : s.working = false) :
    ∃ k ≤ s.pos.index.getD 0, ∃ x, (claimEvent ownLeaving true s).1 = s.departed k x := by
  have hclear : s.clearClaims.claim.list = [] := rfl
  have hsteps : claimSteps (ownLeaving s) = (s.clearClaims, []) := by
    have : s.clearClaims.working = false := hw
    simp only [claimSteps, ownLeaving, this, Bool.false_and, Bool.false_eq_true, if_false]
  have hidle : s.clearClaims.working = false := hw
  have hevent : ∃ k ≤ s.pos.index.getD 0, (claimEvent ownLeaving true s).1 = (s.clearClaims.dropFront k).reportLists := by
    unfold claimEvent
    dsimp only
    rw [hsteps, hidle, releaseOrder_nil]
    simp only [Bool.and_false, Bool.false_eq_true, if_false, List.foldl_nil, State.settleWait_nil hclear]
    obtain ⟨k, hk, htrim⟩ := s.clearClaims.trim_drops
    split
    · exact ⟨k, hk, by rw [htrim]⟩
    · exact ⟨0, Nat.zero_le _, by rw [State.dropFront_zero]⟩
  obtain ⟨k, hk, hevent⟩ := hevent
  obtain ⟨x, hreport⟩ := State.reportLists_idle (s := s.clearClaims.dropFront k) hw rfl
  exact ⟨k, hk, x, hevent.trans hreport⟩

/-! ### The hand-over out of RUN (R133, R150) -/

/-- A hand-over is of the permit and the code alone. -/
theorem Drive.deliver_pair (phase : Nat) {g g' : Guidance} (d : Drive) (h : (g.permit, g.code) = (g'.permit, g'.code)) :
    d.deliver phase g = d.deliver phase g' := by
  obtain ⟨hp, hc⟩ := Prod.mk.inj h
  rw [Drive.deliver, Drive.deliver, hp, hc]

theorem State.guidance_idle {s : State} (h : s.ctl.state ≠ .run) : s.guidance.permit = false ∧ s.guidance.code = 0 := by
  have hp : s.guidance.permit = false := Bool.eq_false_iff.mpr fun hp => h (State.guidance_grounds hp).1
  exact ⟨hp, (State.guidance_held hp).2.1⟩

/-- Out of RUN an event is followed by one recomputation, whichever report comes first. -/
theorem State.guided_idle {k : State → State} {s : State} (hs : s.ctl.state ≠ .run) (hk : (k s).ctl.state ≠ .run)
    (hguide : (k s).guide = s.guide) (hline : (k s).line = s.line) (hclock : (k s).clock = s.clock) :
    s.guided k = (k s).recompute := by
  have hdrive : (k s).drive = s.drive := by rw [State.drive, State.drive, hguide, hline]
  have hphase : (k s).phase = s.phase := by rw [State.phase, State.phase, hclock, hline]
  have hpair : (s.guidance.permit, s.guidance.code) = ((k s).guidance.permit, (k s).guidance.code) := by
    obtain ⟨h1, h2⟩ := State.guidance_idle hs
    obtain ⟨h3, h4⟩ := State.guidance_idle hk
    rw [h1, h2, h3, h4]
  have hearly : (s.drive.deliver s.phase s.guidance).deliver (k s).phase (k s).guidance =
      (k s).drive.deliver (k s).phase (k s).guidance := by
    rw [hdrive, hphase, Drive.deliver_pair s.phase s.drive hpair]
    exact Drive.deliver_same _ _ _ (Drive.deliver_last _ _ _)
  unfold State.guided
  dsimp only
  rw [if_pos hearly]
  rfl

theorem LineDriver.low_eq {l : LineDriver} (hdark : l.high = true → 0 < l.code) (hp : l.permit = false) (hc : l.code = 0)
    (hpend : l.pendingCode = 0) : l = { l with permit := false, code := 0, pendingCode := 0, high := false } := by
  have hhigh : l.high = false := Bool.eq_false_iff.mpr fun h => by
    have := hdark h
    omega
  obtain ⟨permit, code, pending, start, high⟩ := l
  subst hp hc hpend hhigh
  rfl

/-- A false permit handed over lowers both lines (R150, R152). -/
theorem LineDriver.take_low {l : LineDriver} {phase : Nat} (hdark : l.high = true → 0 < l.code) :
    l.take phase false 0 = { l with permit := false, code := 0, pendingCode := 0, high := false } := by
  have hhigh : (l.take phase false 0).high = false := by
    have hwidth : widthOf 0 ≤ phase := by simp [widthOf]
    simp only [LineDriver.take, Bool.false_eq_true, if_false, hwidth, decide_true, Bool.and_true]
    cases h : l.high with
    | false => rfl
    | true => simp [hdark h]
  exact congrArg (fun h => ({ l with permit := false, code := 0, pendingCode := 0, high := h } : LineDriver)) hhigh

/-- Out of RUN a recomputation lowers the lines, and PERMIT_DROP is raised where the permit line was high. -/
theorem State.recompute_idle {s : State} (hs : s.ctl.state ≠ .run) (hlaw : DriveLaw s.drive) :
    s.recompute.line = { s.line with permit := false, code := 0, pendingCode := 0, high := false } ∧
      ∀ e, s.recompute.flag e = (s.flag e || decide (e = .permitDrop ∧ s.line.permit = true)) := by
  obtain ⟨hpermit, hcode⟩ := State.guidance_idle hs
  have hline : s.recompute.line = { s.line with permit := false, code := 0, pendingCode := 0, high := false } := by
    by_cases hlast : (s.guidance.permit, s.guidance.code) = (s.guide.permit, s.guide.code)
    · rw [s.recompute_line_same hlast]
      have hguide : s.guide.permit = false := by rw [← (Prod.mk.inj hlast).1, hpermit]
      obtain ⟨-, h1, h2, h3⟩ := hlaw.low hguide
      exact LineDriver.low_eq hlaw.dark h1 h2 h3
    · rw [s.recompute_line_changed hlast, hpermit, hcode]
      exact LineDriver.take_low hlaw.dark
  refine ⟨hline, fun e => ?_⟩
  have hport := s.recompute_raises
  rw [hline] at hport
  have hflag : s.recompute.flag e = (s.raiseIf (s.line.permit && !false) .permitDrop).flag e := State.port_flagKept hport
  rw [hflag, State.flag_raiseIf]
  cases s.line.permit <;> simp

/-! ### LEAVE (O23) -/

theorem State.enterLeaving_eq {v s : State} {x : Bool} (hlink : v.link = s.link)
    (hsched : v.sched = { s.sched with pendingNotice := x }) (hctl : v.ctl = { s.ctl with state := .leaving, joinTimer := none })
    (hclock : v.clock = s.clock) : v.enterLeaving = { v with
      link := { s.link with
        slot := some { notice := .leave s.ctl.id s.sched.sequence, frame := framed (Notice.leave s.ctl.id s.sched.sequence).bytes },
        replaced := if s.link.slot.isSome then min (s.link.replaced + 1) 65535 else s.link.replaced },
      sched := { s.sched with
        cadence := none, window := none, nearCount := 0, leaveCount := 0, pendingNotice := false,
        sequence := (s.sched.sequence + 1) % 256, guard := some (s.clock + 1000 * s.promptGuard) } } := by
  have henter : v.enterLeaving = { v with
      link := { v.link with
        slot := some { notice := .leave v.ctl.id v.sched.sequence, frame := framed (Notice.leave v.ctl.id v.sched.sequence).bytes },
        replaced := if v.link.slot.isSome then sat16 (v.link.replaced + 1) else v.link.replaced },
      sched := { v.sched with
        cadence := none, window := none, nearCount := 0, leaveCount := 0, pendingNotice := false,
        sequence := (v.sched.sequence + 1) % 256, guard := some (v.clock + 1000 * v.promptGuard) } } := rfl
  have hguard : v.promptGuard = s.promptGuard := by
    rw [State.promptGuard, State.promptGuard, State.tuning, State.tuning, State.tuningInt, State.tuningInt, hctl]
  rw [henter, hlink, hsched, hctl, hclock, hguard]
  rfl

/-- What departure leaves before the entry to LEAVING: the departed record, recomputed. -/
theorem State.depart_spec (s : State) :
    let left : State := { s with ctl := { s.ctl with state := .leaving, joinTimer := none } }
    ∃ k ≤ s.pos.index.getD 0, ∃ x, left.guided (fun t => (claimEvent ownLeaving true t).1) = (left.departed k x).recompute := by
  intro left
  obtain ⟨k, hk, x, hevent⟩ := claimEvent_leaving (s := left) rfl
  refine ⟨k, hk, x, ?_⟩
  have hleaving : StationState.leaving ≠ .run := by decide
  have hidle := State.guided_idle (k := fun t => (claimEvent ownLeaving true t).1) (s := left) hleaving
    (by rw [hevent]; exact hleaving) (by rw [hevent]; rfl) (by rw [hevent]; rfl) (by rw [hevent]; rfl)
  exact hidle.trans (congrArg State.recompute hevent)

/-- Settles O23: the parked test, the refusal, and the departure. -/
theorem leaveDeparts : Obligations.LeaveDeparts := by
  intro s hport hst
  have htaken := exec_taken .leave .leave [] s hport rfl ((StationState.works_iff _).mpr hst)
  refine ⟨s.parked_iff, fun hno => ?_, fun hyes => ?_⟩
  · rw [htaken, Cmd.run, ownLeave, if_neg (by simp [hno])]
    rfl
  · have hown : Cmd.run .leave [] s = (s.depart, some (Reply.plain .done)) := if_pos hyes
    obtain ⟨k, hk, x, hdepart⟩ := s.depart_spec
    generalize hd : State.departed k x { s with ctl := { s.ctl with state := .leaving, joinTimer := none } } = d at hdepart
    have hidle : d.ctl.state ≠ .run := by
      rw [← hd]
      exact (show StationState.leaving ≠ .run by decide)
    obtain ⟨hclaim, hsched, hlink, hroute, hpos⟩ := d.recompute_keeps
    have hframe := d.recompute_frame
    have henter : s.depart = d.recompute.enterLeaving := congrArg State.enterLeaving hdepart
    have heq := State.enterLeaving_eq (v := d.recompute) (s := s) (x := x) (hlink.trans (by rw [← hd]; rfl))
      (hsched.trans (by rw [← hd]; rfl)) (hframe.ctl.trans (by rw [← hd]; rfl)) (hframe.clock.trans (by rw [← hd]; rfl))
    have hu := henter.trans heq
    have hguide : s.depart.guide = d.recompute.guidance := by rw [hu]; exact State.recompute_current d
    have hrec : d.recompute.ctl.state ≠ .run := by rw [hframe.ctl]; exact hidle
    obtain ⟨hpermit, hcode⟩ := State.guidance_idle hrec
    obtain ⟨hceiling, -, -⟩ := State.guidance_held hpermit
    refine ⟨s.depart, by rw [htaken, hown]; rfl, ?_, ?_, ?_, by rw [hguide, hpermit], by rw [hguide, hceiling], by rw [hguide, hcode],
      fun hlaw => ?_, ⟨k, hk, ?_, ?_⟩, ?_, ?_, ?_, ?_, ?_, ?_, ?_, ?_⟩
    · intro left v n
      have hv : v = d.recompute := hdepart
      rw [hv]
      exact hu
    · exact (congrArg State.ctl hu :).trans (hframe.ctl.trans (by rw [← hd]; rfl))
    · exact (congrArg State.claim hu :).trans (hclaim.trans (by rw [← hd]; rfl))
    · have hdrive : d.drive = s.drive := by rw [← hd]; rfl
      have hdline : d.line = s.line := by rw [← hd]; rfl
      obtain ⟨hline, hflags⟩ := State.recompute_idle hidle (hdrive ▸ hlaw.drive)
      have hdflag (e : Event) : d.flag e = s.flag e := by rw [← hd]; rfl
      refine ⟨(congrArg State.line hu :).trans (hline.trans (by rw [hdline])), fun e => ?_⟩
      have hflag : s.depart.flag e = d.recompute.flag e := (congrArg (fun u : State => u.flag e) hu :)
      rw [hflag, hflags e, hdflag, hdline]
    · exact (congrArg State.route hu :).trans (hroute.trans (by rw [← hd]; rfl))
    · exact (congrArg State.pos hu :).trans (hpos.trans (by rw [← hd]; rfl))
    · exact (congrArg State.clock hu :).trans (hframe.clock.trans (by rw [← hd]; rfl))
    · exact (congrArg State.pins hu :).trans (hframe.pins.trans (by rw [← hd]; rfl))
    · exact (congrArg State.map hu :).trans (hframe.map.trans (by rw [← hd]; rfl))
    · exact (congrArg State.odo hu :).trans (hframe.odo.trans (by rw [← hd]; rfl))
    · exact (congrArg State.peers hu :).trans (hframe.peers.trans (by rw [← hd]; rfl))
    · exact (congrArg State.bays hu :).trans (hframe.bays.trans (by rw [← hd]; rfl))
    · exact (congrArg State.load hu :).trans (hframe.load.trans (by rw [← hd]; rfl))
    · have hport : d.recompute.port = (d.raiseIf (d.line.permit && !d.recompute.line.permit) .permitDrop).port := d.recompute_raises
      have hdport : d.port = s.port := by rw [← hd]; rfl
      rw [(congrArg State.port hu :), hport, ← hdport]
      exact d.raiseIf_port_flags _ _

end Sys2Proof.Machine
end

section
/-! PROOFS. Examination, promotion and the face-off test (6.4, 6.9; O52). -/

namespace Sys2Proof.Machine

/-! ### The conditions of R102 -/

/-- The conditions of R102 that do not look at the list: the station's, the peers' and the bay's. -/
structure Grounds (s : State) (g : Nat) : Prop where
  run : s.ctl.state = .run
  placed : s.pos.quality ≠ .none
  unsaturated : s.claim.satSuspension = false
  unclashed : s.claim.clash = none
  unheld : ∀ p ∈ s.peers.entries, ∀ h ∈ p.held, h ∉ s.map.conflictSet g
  outranking : ∀ p ∈ s.peers.entries, p.status ≠ .lost → (∃ h ∈ p.wanted, h ∈ s.map.conflictSet g) →
    ¬ (p.prec < s.claim.prec ∨ (p.prec = s.claim.prec ∧ p.id < s.ctl.id))
  quiet : ∀ p ∈ s.peers.entries, p.status = .quiet → p.segment ∉ s.map.conflictSet g ∧ s.map.adjacency g p.segment = .none
  bay : ∀ st, s.bayOf g = some st → st = .opened

theorem MapStore.conflictHit_iff (m : MapStore) (ids : List Nat) (g : Nat) :
    m.conflictHit ids g = true ↔ ∃ h ∈ ids, h ∈ m.conflictSet g := by
  simp only [MapStore.conflictHit, List.any_eq_true, List.contains_iff_mem]
  exact ⟨fun ⟨h, hset, hid⟩ => ⟨h, hid, hset⟩, fun ⟨h, hid, hset⟩ => ⟨h, hset, hid⟩⟩

theorem keyLower_iff (c1 id1 c2 id2 : Nat) : keyLower c1 id1 c2 id2 = true ↔ c1 < c2 ∨ (c1 = c2 ∧ id1 < id2) := by
  simp [keyLower]

theorem State.outranks_iff (s : State) (p : Peer) :
    s.outranks p = true ↔ p.prec < s.claim.prec ∨ (p.prec = s.claim.prec ∧ p.id < s.ctl.id) := keyLower_iff ..

theorem State.mayPromote_iff (s : State) : s.mayPromote = true ↔
    s.ctl.state = .run ∧ s.claim.satSuspension = false ∧ s.claim.clash = none ∧ s.pos.quality ≠ .none := by
  simp [State.mayPromote, State.placed, and_assoc]

theorem State.betterAsker_false_iff (s : State) (g : Nat) : s.betterAsker g = false ↔ ∀ p ∈ s.peers.entries,
    p.status ≠ .lost → (∃ h ∈ p.wanted, h ∈ s.map.conflictSet g) →
      ¬ (p.prec < s.claim.prec ∨ (p.prec = s.claim.prec ∧ p.id < s.ctl.id)) := by
  simp only [State.betterAsker, List.any_eq_false, Bool.and_eq_true, bne_iff_ne, MapStore.conflictHit_iff, s.outranks_iff, not_and,
    and_imp]

theorem State.quietNeighbour_false_iff (s : State) (g : Nat) : s.quietNeighbour g = false ↔ ∀ p ∈ s.peers.entries,
    p.status = .quiet → p.segment ∉ s.map.conflictSet g ∧ s.map.adjacency g p.segment = .none := by
  simp only [State.quietNeighbour, List.any_eq_false, Bool.and_eq_true, beq_iff_eq, Bool.or_eq_true, bne_iff_ne,
    List.contains_iff_mem, not_and, not_or, not_not]

theorem State.bayAllows_iff (s : State) (g : Nat) : s.bayAllows g = true ↔ ∀ st, s.bayOf g = some st → st = .opened := by
  unfold State.bayAllows
  cases s.bayOf g <;> simp

theorem State.peerHolds_false_iff (s : State) (g : Nat) :
    s.peerHolds g = false ↔ ∀ p ∈ s.peers.entries, ∀ h ∈ p.held, h ∉ s.map.conflictSet g := by
  rw [← Bool.not_eq_true, s.peerHolds_iff]
  simp

/-- W is promoted exactly with room, its count matured, on the grounds of R102. -/
theorem State.promotes_iff (s : State) (w : Claim) : s.promotes w = true ↔
    heldCount s.claim.list < 8 ∧ s.maturing ≤ w.advertised ∧ Grounds s w.seg := by
  simp only [State.promotes, Bool.and_eq_true, decide_eq_true_eq, Bool.not_eq_true', s.mayPromote_iff, s.peerHolds_false_iff,
    s.betterAsker_false_iff, s.quietNeighbour_false_iff, s.bayAllows_iff]
  constructor
  · rintro ⟨⟨⟨⟨⟨⟨hroom, hrun, hsat, hclash, hplaced⟩, hheld⟩, hbetter⟩, hmature⟩, hquiet⟩, hbay⟩
    exact ⟨hroom, hmature, hrun, hplaced, hsat, hclash, hheld, hbetter, hquiet, hbay⟩
  · rintro ⟨hroom, hmature, hrun, hplaced, hsat, hclash, hheld, hbetter, hquiet, hbay⟩
    exact ⟨⟨⟨⟨⟨⟨hroom, hrun, hsat, hclash, hplaced⟩, hheld⟩, hbetter⟩, hmature⟩, hquiet⟩, hbay⟩

/-! ### The cascade (R103) -/

section
variable {s : State} {w : Claim}

theorem cascade_stops (n : Nat) (h : ∀ w, firstWanted s.claim.list = some w → s.promotes w = false) : cascade n s = (s, false) := by
  cases n with
  | zero => rfl
  | succ n =>
    rw [cascade]
    cases hw : firstWanted s.claim.list with
    | none => rfl
    | some w => simp only [h w hw, Bool.false_eq_true, if_false]

theorem cascade_promotes (n : Nat) (hw : firstWanted s.claim.list = some w) (hp : s.promotes w = true) :
    cascade (n + 1) s = ((cascade n (s.setClaims (promoteFirst s.claim.list))).1, true) := by
  simp only [cascade, hw, hp, if_true]

/-- The list with W promoted: W's segment is HELD besides those before, and no other entry changes. -/
theorem promoteFirst_spec {l : List Claim} (hw : firstWanted l = some w) :
    (∀ g, g ∈ heldIds (promoteFirst l) ↔ g ∈ heldIds l ∨ g = w.seg) ∧ heldCount (promoteFirst l) = heldCount l + 1 ∧
      (∀ e ∈ promoteFirst l, e.isHeld = false → e ∈ l) ∧ w ∈ l ∧ w.isHeld = false := by
  obtain ⟨pre, post, rfl, hpre, hheld⟩ := firstWanted_some hw
  rw [promoteFirst_of_first pre post w hpre hheld]
  have hpromoted : w.promoted.isHeld = true := rfl
  refine ⟨fun g => ?_, ?_, fun e he hwanted => ?_, by simp, hheld⟩
  · rw [heldIds_append, heldIds_append, heldIds_cons, heldIds_cons, hpromoted, hheld]
    simp only [if_true, Bool.false_eq_true, if_false, List.mem_append, List.mem_cons]
    have : w.promoted.seg = w.seg := rfl
    rw [this]
    tauto
  · rw [heldCount_append, heldCount_append, heldCount_cons, heldCount_cons, hpromoted, hheld]
    simp only [if_true, Bool.false_eq_true, if_false]
    omega
  · rw [List.mem_append, List.mem_cons] at he ⊢
    obtain he | rfl | he := he
    · exact .inl he
    · exact nomatch hpromoted.symm.trans hwanted
    · exact .inr (.inr he)

end

/-- The cascade keeps what is HELD; what it makes HELD was WANTED, matured, with the grounds of R102. -/
theorem cascade_heldIds (n : Nat) (s : State) :
    (∀ g ∈ heldIds s.claim.list, g ∈ heldIds (cascade n s).1.claim.list) ∧
    (∀ g ∈ heldIds (cascade n s).1.claim.list, g ∉ heldIds s.claim.list →
      Grounds s g ∧ ∃ e ∈ s.claim.list, e.seg = g ∧ e.state = .wanted ∧ s.maturing ≤ e.advertised) := by
  induction n generalizing s with
  | zero => exact ⟨fun g hg => hg, fun g hg hno => absurd hg hno⟩
  | succ n ih =>
    by_cases hstop : ∀ w, firstWanted s.claim.list = some w → s.promotes w = false
    · rw [cascade_stops (n + 1) hstop]
      exact ⟨fun g hg => hg, fun g hg hno => absurd hg hno⟩
    · simp only [not_forall, Bool.not_eq_false] at hstop
      obtain ⟨w, hw, hp⟩ := hstop
      obtain ⟨hids, -, hwanted, hmem, hheld⟩ := promoteFirst_spec hw
      obtain ⟨-, hmature, hgrounds⟩ := (s.promotes_iff w).mp hp
      obtain ⟨hkeep, hmade⟩ := ih (s.setClaims (promoteFirst s.claim.list))
      rw [cascade_promotes n hw hp]
      refine ⟨fun g hg => hkeep g ((hids g).mpr (.inl hg)), fun g hg hno => ?_⟩
      by_cases hgw : g = w.seg
      · subst hgw
        exact ⟨hgrounds, w, hmem, rfl, (Claim.isHeld_false_iff w).mp hheld, hmature⟩
      · have hno' : g ∉ heldIds (promoteFirst s.claim.list) := fun h => ((hids g).mp h).elim hno hgw
        obtain ⟨hg', e, he, hseg, hst, hm⟩ := hmade g hg hno'
        exact ⟨⟨hg'.run, hg'.placed, hg'.unsaturated, hg'.unclashed, hg'.unheld, hg'.outranking, hg'.quiet, hg'.bay⟩,
          e, hwanted e he ((Claim.isHeld_false_iff e).mpr hst), hseg, hst, hm⟩

/-- With more steps than places left the cascade ends where nothing is promoted. -/
theorem cascade_ends (n : Nat) (s : State) (h : 8 - heldCount s.claim.list < n) :
    ∀ w, firstWanted (cascade n s).1.claim.list = some w → (cascade n s).1.promotes w = false := by
  induction n generalizing s with
  | zero => exact absurd h (Nat.not_lt_zero _)
  | succ n ih =>
    by_cases hstop : ∀ w, firstWanted s.claim.list = some w → s.promotes w = false
    · rw [cascade_stops (n + 1) hstop]
      exact hstop
    · simp only [not_forall, Bool.not_eq_false] at hstop
      obtain ⟨w, hw, hp⟩ := hstop
      obtain ⟨-, hcount, -, -, -⟩ := promoteFirst_spec hw
      obtain ⟨hroom, -, -⟩ := (s.promotes_iff w).mp hp
      rw [cascade_promotes n hw hp]
      refine ih _ ?_
      rw [State.setClaims_claim]
      dsimp only
      omega

/-! ### An examination (R103) -/

theorem cascade_heldCount (n : Nat) (s : State) : heldCount s.claim.list ≤ heldCount (cascade n s).1.claim.list := by
  induction n generalizing s with
  | zero => exact Nat.le_refl _
  | succ n ih =>
    by_cases hstop : ∀ w, firstWanted s.claim.list = some w → s.promotes w = false
    · rw [cascade_stops (n + 1) hstop]
    · simp only [not_forall, Bool.not_eq_false] at hstop
      obtain ⟨w, hw, hp⟩ := hstop
      obtain ⟨-, hcount, -, -, -⟩ := promoteFirst_spec hw
      rw [cascade_promotes n hw hp]
      have := ih (s.setClaims (promoteFirst s.claim.list))
      rw [State.setClaims_claim] at this
      dsimp only at this ⊢
      omega

theorem fillRepeat_heldIds (n : Nat) (s : State) : heldIds (fillRepeat n s).claim.list = heldIds s.claim.list := by
  induction n generalizing s with
  | zero => rfl
  | succ n ih =>
    rw [fillRepeat]
    cases hnext : s.fillNext with
    | none => rfl
    | some e =>
      have hwanted : e.isHeld = false := (State.fillNext_some hnext).1
      refine (ih _).trans ?_
      rw [State.setClaims_claim, heldIds_append, heldIds_cons, hwanted]
      simp [heldIds]

theorem State.examine_heldIds (s : State) :
    heldIds s.examine.claim.list = heldIds (cascade Config.claimCapacity s).1.claim.list := by
  have htest (u : State) : heldIds u.testFaceOff.claim.list = heldIds u.claim.list := by rw [u.testFaceOff_claim.1]
  unfold State.examine
  dsimp only
  split
  · exact (fillRepeat_heldIds _ _).trans (htest _)
  · exact htest _

theorem State.examine_idle {s : State} (h : ∀ w, firstWanted s.claim.list = some w → s.promotes w = false) :
    s.examine = s.testFaceOff := by
  simp only [State.examine, cascade_stops _ h, Bool.false_and, Bool.false_eq_true, if_false]

/-- An examination that promotes: the cascade to its end, the face-off test, and one filling. -/
theorem State.examine_promoting {s : State} {w : Claim} (hw : firstWanted s.claim.list = some w) (hp : s.promotes w = true) :
    ∃ u : State, s.examine = u.testFaceOff.fill ∧ heldIds u.claim.list = heldIds s.examine.claim.list ∧
      heldCount s.claim.list < heldCount u.claim.list ∧ w.seg ∈ heldIds u.claim.list ∧ u.examine = u.testFaceOff := by
  obtain ⟨hids, hcount, -, -, -⟩ := promoteFirst_spec hw
  obtain ⟨-, -, hgrounds⟩ := (s.promotes_iff w).mp hp
  have hflag : cascade Config.claimCapacity s = ((cascade 11 (s.setClaims (promoteFirst s.claim.list))).1, true) :=
    cascade_promotes 11 hw hp
  have hcascade : (cascade Config.claimCapacity s).1 = (cascade 11 (s.setClaims (promoteFirst s.claim.list))).1 :=
    (congrArg (fun r : State × Bool => r.1) hflag :)
  have hplaced : (cascade Config.claimCapacity s).1.testFaceOff.placed = true := by
    rw [State.placed, ((cascade_frame _ s).trans (State.testFaceOff_frame _)).quality]
    simpa using hgrounds.placed
  refine ⟨(cascade Config.claimCapacity s).1, ?_, s.examine_heldIds.symm, ?_, ?_, State.examine_idle (cascade_ends _ s ?_)⟩
  · have htrue : (cascade Config.claimCapacity s).2 = true := (congrArg (fun r : State × Bool => r.2) hflag :)
    simp only [State.examine, htrue, hplaced, Bool.and_self, if_true]
  · rw [hcascade]
    refine Nat.lt_of_lt_of_le ?_ (cascade_heldCount 11 _)
    rw [State.setClaims_claim]
    exact hcount ▸ Nat.lt_succ_self _
  · rw [hcascade]
    exact (cascade_heldIds 11 _).1 _ ((hids _).mpr (.inr rfl))
  · change _ < 12
    omega

theorem State.examine_spec (s : State) :
    (heldIds s.examine.claim.list = heldIds s.claim.list → s.examine = s.testFaceOff) ∧
    (heldIds s.examine.claim.list ≠ heldIds s.claim.list → ∃ u : State, s.examine = u.testFaceOff.fill ∧
      heldIds u.claim.list = heldIds s.examine.claim.list ∧ u.examine = u.testFaceOff) := by
  by_cases hstop : ∀ w, firstWanted s.claim.list = some w → s.promotes w = false
  · have hidle := State.examine_idle hstop
    refine ⟨fun _ => hidle, fun hne => absurd ?_ hne⟩
    rw [hidle, s.testFaceOff_claim.1]
  · simp only [not_forall, Bool.not_eq_false] at hstop
    obtain ⟨w, hw, hp⟩ := hstop
    obtain ⟨u, hu, hids, hmore, -, hend⟩ := State.examine_promoting hw hp
    refine ⟨fun heq => ?_, fun _ => ⟨u, hu, hids, hend⟩⟩
    rw [← heldIds_length, ← heldIds_length, hids, heq] at hmore
    exact absurd hmore (Nat.lt_irrefl _)

/-! ### The face-off test (R114) -/

theorem lowestKey_none {l : List Peer} (h : lowestKey l = none) : l = [] := by
  cases l with
  | nil => rfl
  | cons p rest =>
    rw [lowestKey] at h
    split at h
    · exact nomatch h
    · split at h <;> exact nomatch h

theorem lowestKey_spec {l : List Peer} {r : Peer} (h : lowestKey l = some r) :
    r ∈ l ∧ ∀ q ∈ l, keyLower q.prec q.id r.prec r.id = false := by
  induction l generalizing r with
  | nil => exact nomatch h
  | cons p rest ih =>
    have hlower (x y : Peer) : keyLower x.prec x.id y.prec y.id = false ↔ y.prec < x.prec ∨ (y.prec = x.prec ∧ y.id ≤ x.id) := by
      rw [← Bool.not_eq_true, keyLower_iff]
      omega
    rw [lowestKey] at h
    cases hrest : lowestKey rest with
    | none =>
      rw [hrest] at h
      obtain rfl := Option.some.inj h
      rw [lowestKey_none hrest]
      exact ⟨List.mem_cons_self, fun x hx => List.mem_singleton.mp hx ▸ (hlower _ _).mpr (.inr ⟨rfl, Nat.le_refl _⟩)⟩
    | some q =>
      obtain ⟨hq, hmin⟩ := ih hrest
      simp only [hrest] at h
      by_cases hqp : keyLower q.prec q.id p.prec p.id = true
      · rw [if_pos hqp] at h
        obtain rfl := Option.some.inj h
        refine ⟨List.mem_cons_of_mem _ hq, List.forall_mem_cons.mpr ⟨(hlower _ _).mpr ?_, hmin⟩⟩
        have := (keyLower_iff ..).mp hqp
        omega
      · rw [if_neg hqp] at h
        obtain rfl := Option.some.inj h
        refine ⟨List.mem_cons_self, List.forall_mem_cons.mpr ⟨(hlower _ _).mpr (.inr ⟨rfl, Nat.le_refl _⟩), fun x hx => ?_⟩⟩
        have h1 := (hlower x q).mp (hmin x hx)
        have h2 := (hlower q p).mp (Bool.eq_false_iff.mpr hqp)
        rw [hlower]
        omega

/-- A peer that the face-off test finds (R114). -/
def State.Found (s : State) (p : Peer) : Prop :=
  p ∈ s.peers.entries ∧ p.status ≠ .lost ∧
    (∃ w, s.claim.list.find? (fun e => e.state == .wanted) = some w ∧ ∃ h ∈ p.held, h ∈ s.map.conflictSet w.seg) ∧
    ∃ v, p.wanted.head? = some v ∧ ∃ e ∈ s.claim.list, e.state = .held ∧ v ∈ s.map.conflictSet e.seg

theorem State.mem_faceOffPeers {s : State} {w : Claim} {p : Peer} : p ∈ s.faceOffPeers w ↔
    p ∈ s.peers.entries ∧ (∃ h ∈ p.held, h ∈ s.map.conflictSet w.seg) ∧ p.status ≠ .lost ∧
      ∃ v, p.wanted.head? = some v ∧ ∃ e ∈ s.claim.list, e.state = .held ∧ v ∈ s.map.conflictSet e.seg := by
  simp only [State.faceOffPeers, List.mem_filter, Bool.and_eq_true, MapStore.conflictHit_iff, bne_iff_ne, and_assoc]
  refine and_congr_right fun _ => and_congr_right fun _ => and_congr_right fun _ => ?_
  cases p.wanted with
  | nil => simp
  | cons v rest => simp [heldIds, Claim.isHeld]

theorem State.found_iff {s : State} {p : Peer} : s.Found p ↔ ∃ w, firstWanted s.claim.list = some w ∧ p ∈ s.faceOffPeers w := by
  simp only [State.Found, State.mem_faceOffPeers, firstWanted_eq]
  constructor
  · rintro ⟨hp, hl, ⟨w, hw, hheld⟩, hv⟩
    exact ⟨w, hw, hp, hheld, hl, hv⟩
  · rintro ⟨w, hw, hp, hheld, hl, hv⟩
    exact ⟨hp, hl, ⟨w, hw, hheld⟩, hv⟩

theorem State.testFaceOff_unfound {s : State} (h : ∀ p, ¬ s.Found p) :
    s.testFaceOff = { s with claim := { s.claim with faceOff := none } } :=
  State.testFaceOff_none fun w hw => List.eq_nil_iff_forall_not_mem.mpr fun p hp => h p (State.found_iff.mpr ⟨w, hw, hp⟩)

/-- The record of a face-off with a peer (R114). -/
def State.faceOffWith (s : State) (p : Peer) : FaceOff :=
  { peer := p.id, yields := decide (p.prec < s.claim.prec ∨ (p.prec = s.claim.prec ∧ p.id < s.ctl.id)) }

/-- The found peer of lowest key is recorded; FACE_OFF is raised unless the record named it already. -/
theorem State.testFaceOff_found {s : State} {p : Peer} (hp : s.Found p)
    (hlow : ∀ q, s.Found q → q = p ∨ p.prec < q.prec ∨ (p.prec = q.prec ∧ p.id < q.id)) :
    s.testFaceOff = (let s' : State := { s with claim := { s.claim with faceOff := some (s.faceOffWith p) } }
      if s.claim.faceOff.any (fun f => decide (f.peer = p.id)) then s' else s'.raiseFaceOff p.id) := by
  obtain ⟨w, hw, hmem⟩ := State.found_iff.mp hp
  have hlowest : lowestKey (s.faceOffPeers w) = some p := by
    cases hl : lowestKey (s.faceOffPeers w) with
    | none => exact absurd (lowestKey_none hl ▸ hmem) List.not_mem_nil
    | some r =>
      obtain ⟨hr, hmin⟩ := lowestKey_spec hl
      obtain rfl | hless := hlow r (State.found_iff.mpr ⟨w, hw, hr⟩)
      · rfl
      · exact absurd ((keyLower_iff ..).mpr hless) (by simp [hmin p hmem])
  have hyields : s.outranks p = decide (p.prec < s.claim.prec ∨ (p.prec = s.claim.prec ∧ p.id < s.ctl.id)) := by
    rw [Bool.eq_iff_iff, s.outranks_iff, decide_eq_true_eq]
  simp only [State.testFaceOff, hw, Option.bind_some, hlowest, hyields]
  cases s.claim.faceOff with
  | none => rfl
  | some f => by_cases hf : f.peer = p.id <;> simp [hf, State.faceOffWith]

theorem State.raiseFaceOff_spec (s : State) (id : Nat) : (s.raiseFaceOff id).port.faceOffPeer = some id ∧
    (∀ e, (s.raiseFaceOff id).flag e = (s.flag e || decide (e = .faceOff))) ∧
    { (s.raiseFaceOff id).port with flags := s.port.flags, faceOffPeer := s.port.faceOffPeer } = s.port :=
  ⟨rfl, fun e => s.flag_raise_eq e .faceOff, rfl⟩

theorem State.testFaceOff_spec {s : State} {p : Peer} (hp : s.Found p)
    (hlow : ∀ q, s.Found q → q = p ∨ p.prec < q.prec ∨ (p.prec = q.prec ∧ p.id < q.id)) :
    let t := s.testFaceOff
    t = { s with claim := { s.claim with faceOff := some (s.faceOffWith p) }, port := t.port } ∧
      ((∃ f, s.claim.faceOff = some f ∧ f.peer = p.id) → t.port = s.port) ∧
      ((∀ f, s.claim.faceOff = some f → f.peer ≠ p.id) → t.port.faceOffPeer = some p.id ∧
        (∀ e, t.flag e = (s.flag e || decide (e = .faceOff))) ∧
        { t.port with flags := s.port.flags, faceOffPeer := s.port.faceOffPeer } = s.port) := by
  intro t
  have ht : t = _ := State.testFaceOff_found hp hlow
  dsimp only at ht
  have hany : s.claim.faceOff.any (fun f => decide (f.peer = p.id)) = true ↔ ∃ f, s.claim.faceOff = some f ∧ f.peer = p.id := by
    cases s.claim.faceOff <;> simp
  by_cases hsame : s.claim.faceOff.any (fun f => decide (f.peer = p.id)) = true
  · rw [if_pos hsame] at ht
    obtain ⟨f, hf, hpeer⟩ := hany.mp hsame
    rw [ht]
    exact ⟨rfl, fun _ => rfl, fun hno => absurd hpeer (hno f hf)⟩
  · rw [if_neg hsame] at ht
    rw [ht]
    exact ⟨rfl, fun h => absurd (hany.mpr h) hsame,
      fun _ => State.raiseFaceOff_spec _ p.id⟩

end Sys2Proof.Machine
end

section
/-! PROOFS. Filling, occupancy and the making of room (6.3, 6.5; O52). -/

namespace Sys2Proof.Machine

/-! ### Filling (R100) -/

/-- The route entry an entry is tied to. -/
def Claim.tiedTo (e : Claim) : Option Nat :=
  match e.tie with
  | .route i => some i
  | .detached => none

theorem lastTied_eq (l : List Claim) : lastTied l = (l.filterMap Claim.tiedTo).getLast? := rfl

theorem Claim.tiedTo_detached {l : List Claim} (h : ∀ x ∈ l, x.tie = .detached) : l.filterMap Claim.tiedTo = [] :=
  List.filterMap_eq_nil_iff.mpr fun x hx => by rw [Claim.tiedTo, h x hx]

theorem lastTied_at {pre post : List Claim} {e : Claim} {k : Nat} (he : e.tie = .route k) (hpost : ∀ x ∈ post, x.tie = .detached) :
    lastTied (pre ++ e :: post) = some k := by
  have htied : e.tiedTo = some k := by rw [Claim.tiedTo, he]
  simp [lastTied_eq, Claim.tiedTo_detached hpost, htied]

theorem lastTied_none {l : List Claim} (h : ∀ x ∈ l, x.tie = .detached) : lastTied l = none := by
  rw [lastTied_eq, Claim.tiedTo_detached h]
  rfl

/-- Where filling looks: after the last tied entry, or at the current one. -/
theorem State.fillIndex_eq {s : State} {i : Nat}
    (h : (∃ pre e post k, s.claim.list = pre ++ e :: post ∧ e.tie = .route k ∧ (∀ x ∈ post, x.tie = .detached) ∧ i = k + 1) ∨
      ((∀ x ∈ s.claim.list, x.tie = .detached) ∧ s.pos.index = some i)) : s.fillIndex = some i := by
  obtain ⟨pre, e, post, k, hl, he, hpost, rfl⟩ | ⟨hall, hi⟩ := h
  · simp only [State.fillIndex, hl, lastTied_at he hpost]
  · simp only [State.fillIndex, lastTied_none hall, hi]

theorem State.span_index {s : State} {i : Nat} {p : Span} (h : s.spans[i]? = some p) : p.index = i := by
  rw [s.spans_getElem?] at h
  obtain ⟨e, -, rfl⟩ := Option.map_eq_some_iff.mp h
  rfl

/-- The conditions of R100 on the route entry filling looks at. -/
structure State.Fills (s : State) (b : Body) (p : Span) : Prop where
  unlisted : p.seg ∉ s.claim.list.map (·.seg)
  wanted : wantedCount s.claim.list < 4
  size : s.claim.list.length < 12
  reach : p.start - b.front < s.claimReach

theorem State.fillNext_iff {s : State} {b : Body} {i : Nat} (hb : s.body = some b) (hi : s.fillIndex = some i) (e : Claim) :
    s.fillNext = some e ↔ ∃ p, s.spans[i]? = some p ∧ s.Fills b p ∧ e = p.claim .wanted := by
  cases hp : s.spans[i]? with
  | none => simp only [State.fillNext, hb, hi, hp, reduceCtorEq, false_and, exists_false]
  | some p =>
    have hindex := State.span_index hp
    have hcond : (!(s.claim.list.any (·.seg == p.seg)) && decide (wantedCount s.claim.list < Config.wantedCapacity) &&
        decide (s.claim.list.length < Config.claimCapacity) && decide (p.start - b.front < s.claimReach)) = true ↔ s.Fills b p := by
      simp only [Bool.and_eq_true, Bool.not_eq_true', List.any_eq_false, beq_iff_eq, decide_eq_true_eq]
      constructor
      · rintro ⟨⟨⟨hfree, hw⟩, hl⟩, hreach⟩
        exact ⟨by simpa using hfree, hw, hl, hreach⟩
      · rintro ⟨hfree, hw, hl, hreach⟩
        exact ⟨⟨⟨by simpa using hfree, hw⟩, hl⟩, hreach⟩
    simp only [State.fillNext, hb, hi, hp, Option.ite_none_right_eq_some, hcond, Option.some.injEq, exists_eq_left', Span.claim,
      hindex]
    exact and_congr_right fun _ => eq_comm

theorem fillRepeat_spec (m : Nat) (s : State) (b : Body) (i : Nat) (hb : s.body = some b) (hi : s.fillIndex = some i)
    (hm : 4 - wantedCount s.claim.list < m) :
    ∃ n, (fillRepeat m s).claim.list = s.claim.list ++ ((s.spans.drop i).take n).map (Span.claim .wanted) ∧
      (∀ k p, k < n → s.spans[i + k]? = some p → p.start - b.front < s.claimReach ∧
        p.seg ∉ ((fillRepeat m s).claim.list.take (s.claim.list.length + k)).map (·.seg) ∧
        wantedCount s.claim.list + k < 4 ∧ s.claim.list.length + k < 12) ∧
      (∀ p, s.spans[i + n]? = some p → s.claimReach ≤ p.start - b.front ∨ p.seg ∈ (fillRepeat m s).claim.list.map (·.seg) ∨
        4 ≤ wantedCount (fillRepeat m s).claim.list ∨ 12 ≤ (fillRepeat m s).claim.list.length) := by
  induction m generalizing s i with
  | zero => exact absurd hm (Nat.not_lt_zero _)
  | succ m ih =>
    cases hnext : s.fillNext with
    | none =>
      have hstop : fillRepeat (m + 1) s = s := by simp only [fillRepeat, hnext]
      rw [hstop]
      refine ⟨0, by simp, fun k p hk => absurd hk (Nat.not_lt_zero k), fun p hp => ?_⟩
      by_contra hno
      simp only [not_or, Int.not_le, Nat.not_le] at hno
      obtain ⟨hreach, hfree, hw, hl⟩ := hno
      exact nomatch hnext.symm.trans ((State.fillNext_iff hb hi _).mpr ⟨p, hp, ⟨hfree, hw, hl, hreach⟩, rfl⟩)
    | some e =>
      obtain ⟨p, hp, hfills, rfl⟩ := (State.fillNext_iff hb hi e).mp hnext
      have hstep : fillRepeat (m + 1) s = fillRepeat m (s.setClaims (s.claim.list ++ [p.claim .wanted])) := by
        simp only [fillRepeat, hnext]
      have hindex : p.index = i := State.span_index hp
      have hcount : wantedCount (s.claim.list ++ [p.claim .wanted]) = wantedCount s.claim.list + 1 := by
        rw [wantedCount_append]
        rfl
      have hnextIndex : State.fillIndex (s.setClaims (s.claim.list ++ [p.claim .wanted])) = some (i + 1) :=
        State.fillIndex_eq (.inl ⟨s.claim.list, p.claim .wanted, [], p.index, rfl, rfl, nofun, by rw [hindex]⟩)
      obtain ⟨n, hlist, hadded, hend⟩ := ih (s.setClaims (s.claim.list ++ [p.claim .wanted])) (i + 1) hb hnextIndex
        (by rw [State.setClaims_claim]; dsimp only; have := hfills.wanted; omega)
      have hspans (l : List Claim) : State.spans (s.setClaims l) = s.spans := rfl
      rw [← hstep, hspans] at hlist hadded hend
      rw [State.setClaims_claim] at hlist hadded
      dsimp only at hlist hadded
      have hdrop : s.spans.drop i = p :: s.spans.drop (i + 1) := by
        obtain ⟨hlt, hget⟩ := List.getElem?_eq_some_iff.mp hp
        rw [List.drop_eq_getElem_cons hlt, hget]
      refine ⟨n + 1, ?_, fun k q hk hq => ?_, fun q hq => hend q (by rwa [Nat.add_assoc, Nat.add_comm 1])⟩
      · rw [hlist, hdrop, List.take_succ_cons, List.map_cons, List.append_assoc]
        rfl
      · cases k with
        | zero =>
          obtain rfl : p = q := Option.some.inj (hp.symm.trans hq)
          have htake : (fillRepeat (m + 1) s).claim.list.take (s.claim.list.length + 0) = s.claim.list := by
            rw [hlist, List.append_assoc, Nat.add_zero, List.take_left]
          rw [htake]
          exact ⟨hfills.reach, hfills.unlisted, hfills.wanted, hfills.size⟩
        | succ k =>
          have hk' : k < n := by omega
          obtain ⟨hreach, hfree, hw, hl⟩ := hadded k q hk' (by rwa [Nat.add_assoc, Nat.add_comm 1])
          rw [List.length_append, List.length_singleton] at hfree hl
          rw [hcount] at hw
          refine ⟨hreach, ?_, by omega, by omega⟩
          rwa [Nat.add_assoc, Nat.add_comm 1] at hfree

theorem State.fill_spec {s : State} {b : Body} {i : Nat} (hb : s.body = some b) (hi : s.fillIndex = some i) :
    ∃ n, s.fill.claim.list = s.claim.list ++ ((s.spans.drop i).take n).map (Span.claim .wanted) ∧
      (∀ k p, k < n → s.spans[i + k]? = some p → p.start - b.front < s.claimReach ∧
        p.seg ∉ (s.fill.claim.list.take (s.claim.list.length + k)).map (·.seg) ∧
        wantedCount s.claim.list + k < 4 ∧ s.claim.list.length + k < 12) ∧
      (∀ p, s.spans[i + n]? = some p → s.claimReach ≤ p.start - b.front ∨ p.seg ∈ s.fill.claim.list.map (·.seg) ∨
        4 ≤ wantedCount s.fill.claim.list ∨ 12 ≤ s.fill.claim.list.length) :=
  fillRepeat_spec (Config.wantedCapacity + 1) s b i hb hi (Nat.lt_succ_of_le (Nat.sub_le _ _))

/-! ### Occupancy of one route entry (R105) -/

theorem heldIds_any (l : List Claim) (g : Nat) : l.any (fun e => e.seg == g && e.isHeld) = true ↔ g ∈ heldIds l := by
  simp only [List.any_eq_true, Bool.and_eq_true, beq_iff_eq, mem_heldIds]
  exact ⟨fun ⟨e, he, hg, hh⟩ => ⟨e, he, hh, hg⟩, fun ⟨e, he, hh, hg⟩ => ⟨e, he, hg, hh⟩⟩

theorem State.occupyEntry_listed {s : State} {b : Body} {out : List Claim} {p : Span} (h : p.seg ∈ heldIds s.claim.list) :
    State.occupyEntry b (s, out) p = (s, out) := by
  simp only [State.occupyEntry, (heldIds_any _ _).mpr h, if_true]

theorem State.occupyEntry_enters {s : State} {b : Body} {out : List Claim} {p : Span} (h : p.seg ∉ heldIds s.claim.list) :
    State.occupyEntry b (s, out) p =
      (((s.makeRoom b).1.setClaims (capWanted (insertClaim (p.claim .held) (takeListed p (s.makeRoom b).1.claim.list)))).raiseIf
        (s.peerHolds p.seg) .occupyConflict, out ++ (s.makeRoom b).2) := by
  have hno : ¬ s.claim.list.any (fun e => e.seg == p.seg && e.isHeld) = true := fun hh => h ((heldIds_any _ _).mp hh)
  simp only [State.occupyEntry, hno, if_false, Bool.false_eq_true]
  rfl

theorem State.makeRoom_rest (s : State) (b : Body) : { (s.makeRoom b).1 with claim := s.claim } = s := by
  unfold State.makeRoom
  split
  · rfl
  · split
    · rfl
    · split
      · rfl
      · split <;> rfl

theorem State.makeRoom_free {s : State} (b : Body) (h : heldCount s.claim.list < 8) : s.makeRoom b = (s, []) := if_pos h

/-- A HELD entry entered stands in the list. -/
theorem mem_capWanted_held {l : List Claim} {e : Claim} (he : e ∈ l) (hh : e.isHeld = true) : e ∈ capWanted l := by
  have hmem : e ∈ (capWanted l).filter (·.isHeld) := by
    rw [capWanted_held]
    exact List.mem_filter.mpr ⟨he, hh⟩
  exact (List.mem_filter.mp hmem).1

theorem mem_takeListed_held {p : Span} {l : List Claim} {e : Claim} (he : e ∈ l) (hh : e.isHeld = true) (hs : e.seg ≠ p.seg) :
    e ∈ takeListed p l := by
  induction l with
  | nil => exact nomatch he
  | cons x rest ih =>
    rw [takeListed]
    split
    · next hx =>
      have hrest : e ∈ rest := (List.mem_cons.mp he).resolve_left fun h => hs (h ▸ beq_iff_eq.mp hx)
      split
      · exact hrest
      · exact List.mem_filter.mpr ⟨hrest, hh⟩
    · obtain rfl | he := List.mem_cons.mp he
      · exact List.mem_cons_self
      · exact List.mem_cons_of_mem _ (ih he)

theorem takeListed_unlisted {p : Span} {l : List Claim} (h : ∀ e ∈ l, e.seg ≠ p.seg) : takeListed p l = l := by
  induction l with
  | nil => rfl
  | cons x rest ih =>
    have hx : ¬ (x.seg == p.seg) = true := fun hh => h x List.mem_cons_self (beq_iff_eq.mp hh)
    rw [takeListed, if_neg hx, ih fun e he => h e (List.mem_cons_of_mem _ he)]

theorem takeListed_at {p : Span} {pre post : List Claim} {e : Claim} (hpre : ∀ x ∈ pre, x.seg ≠ p.seg) (he : e.seg = p.seg) :
    takeListed p (pre ++ e :: post) = pre ++ if e.tie = .route p.index then post else post.filter (·.isHeld) := by
  induction pre with
  | nil => simp [takeListed, he]
  | cons x pre ih =>
    have hx : ¬ (x.seg == p.seg) = true := fun hh => hpre x List.mem_cons_self (beq_iff_eq.mp hh)
    rw [List.cons_append, takeListed, if_neg hx, ih fun e he => hpre e (List.mem_cons_of_mem _ he)]
    rfl

theorem insertClaim_sorted {x : Claim} {l : List Claim} (h : l.Pairwise (fun a b => a.spanStart ≤ b.spanStart)) :
    (insertClaim x l).Pairwise (fun a b => a.spanStart ≤ b.spanStart) := by
  induction l with
  | nil => exact List.pairwise_singleton _ _
  | cons e rest ih =>
    obtain ⟨hfirst, hrest⟩ := List.pairwise_cons.mp h
    rw [insertClaim]
    split
    · next hlt =>
      have hle : x.spanStart ≤ e.spanStart := hlt.elim Int.le_of_lt fun heq => heq.1.ge
      exact List.pairwise_cons.mpr ⟨List.forall_mem_cons.mpr ⟨hle, fun y hy => Int.le_trans hle (hfirst y hy)⟩, h⟩
    · next hge =>
      have hle : e.spanStart ≤ x.spanStart := by omega
      refine List.pairwise_cons.mpr ⟨fun y hy => ?_, ih hrest⟩
      obtain rfl | hy := List.mem_cons.mp ((insertClaim_perm x rest).mem_iff.mp hy)
      · exact hle
      · exact hfirst y hy

/-- What occupancy makes of a list with room that keeps the law. -/
theorem occupied_perm {p : Span} {l : List Claim} (hlaw : ClaimLaw l) (hroom : heldCount l < 8) (hno : p.seg ∉ heldIds l) :
    ((∀ e ∈ l, e.seg ≠ p.seg) → (capWanted (insertClaim (p.claim .held) (takeListed p l))).Perm (p.claim .held :: l)) ∧
    (∀ pre e post, l = pre ++ e :: post → e.seg = p.seg → (capWanted (insertClaim (p.claim .held) (takeListed p l))).Perm
      (p.claim .held :: (pre ++ if e.tie = .route p.index then post else []))) := by
  have hsub := takeListed_sublist p l
  have hperm := insertClaim_perm (p.claim .held) (takeListed p l)
  have hwithin : capWanted (insertClaim (p.claim .held) (takeListed p l)) = insertClaim (p.claim .held) (takeListed p l) := by
    have hcounts := heldCount_add_wantedCount l
    have hwanted := hlaw.wanted
    refine capWanted_within _ ?_ ?_
    · rw [wantedCount_perm hperm, wantedCount_cons]
      exact (wantedCount_sublist hsub).trans hwanted
    · rw [hperm.length_eq, List.length_cons]
      have := hsub.length_le
      simp only [Config.wantedCapacity, Config.claimCapacity] at *
      omega
  rw [hwithin]
  refine ⟨fun hfree => ?_, fun pre e post hl he => ?_⟩
  · rwa [takeListed_unlisted hfree] at hperm ⊢
  · subst hl
    have hpre : ∀ x ∈ pre, x.seg ≠ p.seg := fun x hx heq => by
      have hd := hlaw.distinct
      rw [List.map_append, List.map_cons, List.nodup_append] at hd
      exact hd.2.2 _ (List.mem_map.mpr ⟨x, hx, rfl⟩) _ List.mem_cons_self (heq.trans he.symm)
    have hwanted : e.isHeld = false := Bool.eq_false_iff.mpr fun hh => hno (mem_heldIds.mpr ⟨e, by simp, hh, he⟩)
    have hpost : post.filter (·.isHeld) = [] := List.filter_eq_nil_iff.mpr fun x hx => by
      have horder := (List.pairwise_append.mp hlaw.order).2.1
      simp [List.rel_of_pairwise_cons horder hx hwanted]
    rwa [takeListed_at hpre he, hpost] at hperm ⊢

/-! ### Making room (R106) -/

theorem mapLast_at {f : Claim → Bool} {g : Claim → List Claim} {pre post : List Claim} {x : Claim} (hx : f x = true)
    (hpost : ∀ y ∈ post, f y = false) : mapLast f g (pre ++ x :: post) = some (pre ++ (g x ++ post)) := by
  induction pre with
  | nil =>
    have hnone : mapLast f g post = none := mapLast_none.mpr hpost
    simp only [List.nil_append, mapLast, hnone, hx, if_true]
  | cons e pre ih => simp only [List.cons_append, mapLast, ih]

section
variable {s : State} {b : Body}

theorem State.makeRoom_turnsBack {pre post : List Claim} {x : Claim} (hfull : 8 ≤ heldCount s.claim.list)
    (hl : s.claim.list = pre ++ x :: post) (hx : x.isHeld = true ∧ b.front ≤ x.spanStart)
    (hpost : ∀ y ∈ post, ¬ (y.isHeld = true ∧ b.front ≤ y.spanStart)) :
    s.makeRoom b = (s.setClaims (pre ++ x.turnedBack :: post), []) := by
  have hmap : mapLast (fun e => e.isHeld && b.sees e.spanStart) (fun e => [e.turnedBack]) s.claim.list =
      some (pre ++ x.turnedBack :: post) := by
    rw [hl]
    refine mapLast_at ?_ fun y hy => ?_
    · simpa [Body.sees] using hx
    · simpa [Body.sees] using hpost y hy
  simp only [State.makeRoom, if_neg (Nat.not_lt.mpr hfull : ¬ heldCount s.claim.list < Config.heldCapacity), hmap]

theorem State.makeRoom_behind {x : Claim} (hfull : 8 ≤ heldCount s.claim.list)
    (hahead : ∀ y ∈ s.claim.list, ¬ (y.isHeld = true ∧ b.front ≤ y.spanStart))
    (hfind : s.claim.list.find? (fun e => e.isHeld && b.passed (s.claimStop e)) = some x) :
    s.makeRoom b = (s.setClaims (s.claim.list.erase x), [x]) := by
  have hmap : mapLast (fun e => e.isHeld && b.sees e.spanStart) (fun e => [e.turnedBack]) s.claim.list = none :=
    mapLast_none.mpr fun y hy => by simpa [Body.sees] using hahead y hy
  simp only [State.makeRoom, if_neg (Nat.not_lt.mpr hfull : ¬ heldCount s.claim.list < Config.heldCapacity), hmap, hfind]

theorem State.makeRoom_farthest {x : Claim} (hfull : 8 ≤ heldCount s.claim.list)
    (hahead : ∀ y ∈ s.claim.list, ¬ (y.isHeld = true ∧ b.front ≤ y.spanStart))
    (hfind : s.claim.list.find? (fun e => e.isHeld && b.passed (s.claimStop e)) = none)
    (hlast : (s.claim.list.filter (fun e => e.tie == .detached)).getLast? = some x) :
    s.makeRoom b = (s.setClaims (s.claim.list.erase x), [x]) := by
  have hmap : mapLast (fun e => e.isHeld && b.sees e.spanStart) (fun e => [e.turnedBack]) s.claim.list = none :=
    mapLast_none.mpr fun y hy => by simpa [Body.sees] using hahead y hy
  simp only [State.makeRoom, if_neg (Nat.not_lt.mpr hfull : ¬ heldCount s.claim.list < Config.heldCapacity), hmap, hfind, hlast]

theorem State.makeRoom_releases {pre post : List Claim} {x : Claim} (hfull : 8 ≤ heldCount s.claim.list)
    (hl : s.claim.list = pre ++ x :: post) (hahead : ∀ y ∈ s.claim.list, ¬ (y.isHeld = true ∧ b.front ≤ y.spanStart))
    (hx : x.isHeld = true ∧ s.claimStop x ≤ b.rear) (hpre : ∀ y ∈ pre, ¬ (y.isHeld = true ∧ s.claimStop y ≤ b.rear)) :
    s.makeRoom b = (s.setClaims (pre ++ post), [x]) := by
  have hbehind (y : Claim) : (y.isHeld && b.passed (s.claimStop y)) = true ↔ y.isHeld = true ∧ s.claimStop y ≤ b.rear := by
    simp [Body.passed]
  have hfind : s.claim.list.find? (fun e => e.isHeld && b.passed (s.claimStop e)) = some x := by
    rw [hl]
    refine List.find?_eq_some_iff_append.mpr ⟨(hbehind x).mpr hx, pre, post, rfl, fun y hy => ?_⟩
    rw [Bool.not_eq_true', ← Bool.not_eq_true, hbehind]
    exact hpre y hy
  have herase : s.claim.list.erase x = pre ++ post := by
    have hno : x ∉ pre := fun hmem => hpre x hmem hx
    rw [hl, List.erase_append_right _ hno, List.erase_cons_head]
  rw [State.makeRoom_behind hfull hahead hfind, herase]

theorem State.makeRoom_detached {pre post : List Claim} {x : Claim} (hfull : 8 ≤ heldCount s.claim.list)
    (hl : s.claim.list = pre ++ x :: post)
    (hnone : ∀ y ∈ s.claim.list, ¬ (y.isHeld = true ∧ b.front ≤ y.spanStart) ∧ ¬ (y.isHeld = true ∧ s.claimStop y ≤ b.rear))
    (hx : x.tie = .detached) (hpost : ∀ y ∈ post, y.tie ≠ .detached) :
    s.makeRoom b = (s.setClaims (s.claim.list.erase x), [x]) := by
  have hfind : s.claim.list.find? (fun e => e.isHeld && b.passed (s.claimStop e)) = none :=
    List.find?_eq_none.mpr fun y hy => by simpa [Body.passed] using (hnone y hy).2
  have hlast : (s.claim.list.filter (fun e => e.tie == .detached)).getLast? = some x := by
    have hnil : post.filter (fun e => e.tie == .detached) = [] := List.filter_eq_nil_iff.mpr fun y hy => by simpa using hpost y hy
    rw [hl, List.filter_append, List.filter_cons, hnil]
    simp [hx]
  exact State.makeRoom_farthest hfull (fun y hy => (hnone y hy).1) hfind hlast

end

/-! ### The law of promotion, clause by clause (O52) -/

section
variable (s : State)

theorem State.examine_made {g : Nat} (hg : g ∈ heldIds s.examine.claim.list) (hno : g ∉ heldIds s.claim.list) :
    Grounds s g ∧ ∃ e ∈ s.claim.list, e.seg = g ∧ e.state = .wanted ∧ s.maturing ≤ e.advertised :=
  (cascade_heldIds Config.claimCapacity s).2 g (s.examine_heldIds ▸ hg) hno

theorem State.examine_promotes {w : Claim} (hw : firstWanted s.claim.list = some w) (hroom : heldCount s.claim.list < 8)
    (hmature : s.maturing ≤ w.advertised) (hgrounds : Grounds s w.seg) : w.seg ∈ heldIds s.examine.claim.list := by
  obtain ⟨u, -, hids, -, hmem, -⟩ := State.examine_promoting hw ((s.promotes_iff w).mpr ⟨hroom, hmature, hgrounds⟩)
  exact hids ▸ hmem

/-- Occupancy of one route entry that is not HELD: the flag, the frame, and the entry entered. -/
theorem State.occupyEntry_spec (b : Body) (out : List Claim) {p : Span} (h : p.seg ∉ heldIds s.claim.list) :
    let t := (State.occupyEntry b (s, out) p).1
    p.claim .held ∈ t.claim.list ∧
      (∀ e, t.flag e = (s.flag e || (s.peerHolds p.seg && decide (e = .occupyConflict)))) ∧
      { t with claim := s.claim, port := s.port } = s ∧ { t.port with flags := s.port.flags } = s.port := by
  intro t
  have ht : t = _ := congrArg Prod.fst (State.occupyEntry_enters h)
  have hmem : p.claim .held ∈ capWanted (insertClaim (p.claim .held) (takeListed p (s.makeRoom b).1.claim.list)) :=
    mem_capWanted_held ((insertClaim_perm _ _).mem_iff.mpr List.mem_cons_self) rfl
  dsimp only at ht
  generalize capWanted (insertClaim (p.claim .held) (takeListed p (s.makeRoom b).1.claim.list)) = l at ht hmem
  have hport : ((s.makeRoom b).1.setClaims l).port = s.port := s.makeRoom_port b
  rw [ht]
  refine ⟨?_, fun e => ?_, ?_, ?_⟩
  · cases s.peerHolds p.seg <;> exact hmem
  · rw [State.flag_raiseIf]
    exact congrArg (· || _) (State.port_flagKept hport)
  · have hrest : { (s.makeRoom b).1 with claim := s.claim, port := s.port } = s := by
      rw [← s.makeRoom_port b]
      exact s.makeRoom_rest b
    cases s.peerHolds p.seg <;> exact hrest
  · have hkept := State.raiseIf_port_flags (s.peerHolds p.seg) .occupyConflict ((s.makeRoom b).1.setClaims l)
    rwa [hport] at hkept

theorem State.occupyEntry_roomy (b : Body) (out : List Claim) {p : Span} (h : p.seg ∉ heldIds s.claim.list)
    (hroom : heldCount s.claim.list < 8) : (State.occupyEntry b (s, out) p).2 = out ∧
      (State.occupyEntry b (s, out) p).1.claim.list = capWanted (insertClaim (p.claim .held) (takeListed p s.claim.list)) := by
  have hfree := State.makeRoom_free b hroom
  rw [State.occupyEntry_enters h, hfree]
  refine ⟨List.append_nil _, ?_⟩
  cases s.peerHolds p.seg <;> rfl

end

/-- Settles O52: the examination, the cascade's end, the face-off test, filling, occupancy and the making of room. -/
theorem promotionLaw : Obligations.PromotionLaw := by
  refine ⟨fun s g hg hno => ?_, fun s w hw hroom hrun hplaced hsat hclash hmature hpeers hbay => ?_, fun s => ?_,
    fun s b i hb hi => ?_, fun s b hb => ?_, fun s b out p => ?_, fun s b pre x post hfull hl => ?_⟩
  · obtain ⟨hgr, hwas⟩ := s.examine_made hg hno
    exact ⟨hgr.run, hgr.placed, hgr.unsaturated, hgr.unclashed, hwas, hgr.unheld, hgr.outranking, hgr.quiet, hgr.bay⟩
  · exact s.examine_promotes ((firstWanted_eq _).trans hw) hroom hmature
      ⟨hrun, hplaced, hsat, hclash, fun p hp => (hpeers p hp).1, fun p hp => (hpeers p hp).2.1, fun p hp => (hpeers p hp).2.2, hbay⟩
  · intro found
    obtain ⟨hidle, hpromotes⟩ := s.examine_spec
    exact ⟨hidle, hpromotes, State.testFaceOff_unfound, fun p hp hlow => State.testFaceOff_spec hp hlow⟩
  · exact State.fill_spec hb (State.fillIndex_eq hi)
  · simp only [State.occupy, hb]
    rfl
  · intro t
    refine ⟨State.occupyEntry_listed, fun hno => ?_⟩
    obtain ⟨hmem, hflag, hrest, hport⟩ := s.occupyEntry_spec b out hno
    refine ⟨hmem, fun e => ?_, hrest, hport, fun hroom => ?_, fun hfull => ?_⟩
    · rw [hflag e, Bool.eq_iff_iff]
      simp only [Bool.or_eq_true, Bool.and_eq_true, decide_eq_true_eq, s.peerHolds_iff]
      exact or_congr_right and_comm
    · obtain ⟨hout, hlist⟩ := s.occupyEntry_roomy b out hno hroom
      refine ⟨hout, fun e he hh => ?_, fun hsorted => ?_, fun hlaw => ?_⟩
      · have hheld := (Claim.isHeld_iff e).mpr hh
        have hseg : e.seg ≠ p.seg := fun heq => hno (mem_heldIds.mpr ⟨e, he, hheld, heq⟩)
        refine hlist ▸ mem_capWanted_held ((insertClaim_perm _ _).mem_iff.mpr (List.mem_cons_of_mem _ ?_)) hheld
        exact mem_takeListed_held he hheld hseg
      · exact hlist ▸ (insertClaim_sorted (hsorted.sublist (takeListed_sublist p _))).sublist (capWanted_sublist _)
      · exact hlist ▸ occupied_perm hlaw hroom hno
    · rw [State.occupyEntry_enters hno]
  · intro ahead behind
    have hahead (y : Claim) : ahead y ↔ y.isHeld = true ∧ b.front ≤ y.spanStart := and_congr_left' (Claim.isHeld_iff y).symm
    have hbehind (y : Claim) : behind y ↔ y.isHeld = true ∧ s.claimStop y ≤ b.rear := and_congr_left' (Claim.isHeld_iff y).symm
    refine ⟨fun hx hpost => ?_, fun hfree hx hpre => ?_, fun hnone hx hpost => ?_⟩
    · have hroom := State.makeRoom_turnsBack hfull hl ((hahead x).mp hx) fun y hy h => hpost y hy ((hahead y).mpr h)
      rw [hroom]
      exact ⟨rfl, rfl⟩
    · have hroom := State.makeRoom_releases hfull hl (fun y hy h => hfree y hy ((hahead y).mpr h)) ((hbehind x).mp hx)
        fun y hy h => hpre y hy ((hbehind y).mpr h)
      rw [hroom]
      exact ⟨rfl, rfl⟩
    · have hroom := State.makeRoom_detached hfull hl (fun y hy => ⟨fun h => (hnone y hy).1 ((hahead y).mpr h),
        fun h => (hnone y hy).2 ((hbehind y).mpr h)⟩) hx hpost
      rw [hroom]
      exact ⟨rfl, rfl⟩

end Sys2Proof.Machine
end

section
/-! PROOFS. The law of the claim list under filling, examination, release, the double-hold test and a route change, and what
these do (6.2, 6.3, 6.6 to 6.8; O53). -/

namespace Sys2Proof.Machine

/-! ### Two parts: HELD, then WANTED (R95) -/

theorem filter_held_nil {l : List Claim} (h : ∀ x ∈ l, x.isHeld = false) : l.filter (·.isHeld) = [] :=
  List.filter_eq_nil_iff.mpr fun x hx => by simp [h x hx]

theorem filter_wanted_nil {l : List Claim} (h : ∀ x ∈ l, x.isHeld = true) : l.filter (fun e => !e.isHeld) = [] :=
  List.filter_eq_nil_iff.mpr fun x hx => by simp [h x hx]

theorem heldCount_wanted {l : List Claim} (h : ∀ x ∈ l, x.isHeld = false) : heldCount l = 0 := by
  rw [heldCount, filter_held_nil h, List.length_nil]

theorem wantedCount_held {l : List Claim} (h : ∀ x ∈ l, x.isHeld = true) : wantedCount l = 0 := by
  rw [wantedCount, filter_wanted_nil h, List.length_nil]

/-- A list in order is its HELD entries and then its WANTED ones. -/
theorem ordered_parts {l : List Claim} (h : l.Pairwise (fun a b => a.isHeld = false → b.isHeld = false)) :
    l = l.filter (·.isHeld) ++ l.filter (fun e => !e.isHeld) := by
  induction l with
  | nil => rfl
  | cons e rest ih =>
    obtain ⟨hfirst, hrest⟩ := List.pairwise_cons.mp h
    cases he : e.isHeld with
    | true => simpa [he] using ih hrest
    | false =>
      have hall : ∀ x ∈ rest, x.isHeld = false := fun x hx => hfirst x hx he
      have hself : rest.filter (fun e => !e.isHeld) = rest := List.filter_eq_self.mpr fun x hx => by simp [hall x hx]
      simp [he, filter_held_nil hall, hself]

/-- The two parts of a list that keeps the law. -/
structure Parts (l pre post : List Claim) : Prop where
  list : l = pre ++ post
  held : ∀ x ∈ pre, x.isHeld = true
  wanted : ∀ x ∈ post, x.isHeld = false

theorem Parts.of_order {l : List Claim} (h : l.Pairwise (fun a b => a.isHeld = false → b.isHeld = false)) :
    Parts l (l.filter (·.isHeld)) (l.filter (fun e => !e.isHeld)) where
  list := ordered_parts h
  held := fun _ hx => (List.mem_filter.mp hx).2
  wanted := fun _ hx => by simpa using (List.mem_filter.mp hx).2

section
variable {l pre post : List Claim} (h : Parts l pre post)
include h

theorem Parts.order : l.Pairwise (fun a b => a.isHeld = false → b.isHeld = false) := by
  rw [h.list, List.pairwise_append]
  refine ⟨List.pairwise_of_forall_mem_list fun a ha _ _ hf => ?_, List.pairwise_of_forall_mem_list fun _ _ b hb _ => h.wanted b hb,
    fun _ _ b hb _ => h.wanted b hb⟩
  exact nomatch (h.held a ha).symm.trans hf

theorem Parts.heldCount : heldCount l = pre.length := by
  have := heldCount_add_wantedCount pre
  rw [h.list, heldCount_append, heldCount_wanted h.wanted]
  rw [wantedCount_held h.held] at this
  exact this

theorem Parts.wantedCount : wantedCount l = post.length := by
  have := heldCount_add_wantedCount post
  rw [h.list, wantedCount_append, wantedCount_held h.held, Nat.zero_add]
  rwa [heldCount_wanted h.wanted, Nat.zero_add] at this

/-- The law of R95 by the two parts. -/
theorem Parts.law_iff : ClaimLaw l ↔ pre.length ≤ 8 ∧ post.length ≤ 4 ∧ (l.map (·.seg)).Nodup := by
  have hlen : l.length = pre.length + post.length := by rw [h.list, List.length_append]
  constructor
  · intro law
    exact ⟨h.heldCount ▸ law.held, h.wantedCount ▸ law.wanted, law.distinct⟩
  · rintro ⟨hheld, hwanted, hdistinct⟩
    refine ⟨?_, h.heldCount ▸ hheld, h.wantedCount ▸ hwanted, hdistinct, h.order⟩
    rw [hlen]
    simp only [Config.claimCapacity]
    omega

end

/-! ### The law and its list -/

theorem heldCount_of_marks_sublist {l r : List Claim} (h : (claimMarks l).Sublist (claimMarks r)) : heldCount l ≤ heldCount r := by
  rw [← heldIds_length, ← heldIds_length, heldIds_marks, heldIds_marks]
  exact ((h.filter _).map _).length_le

theorem order_marks (l : List Claim) : l.Pairwise (fun a b => a.isHeld = false → b.isHeld = false) ↔
    (claimMarks l).Pairwise (fun a b => a.2 = .wanted → b.2 = .wanted) := by
  simp only [claimMarks, List.pairwise_map, Claim.isHeld_false_iff]

theorem ClaimLaw.of_marks_sublist {l r : List Claim} (law : ClaimLaw r) (h : (claimMarks l).Sublist (claimMarks r)) :
    ClaimLaw l where
  entries := le_trans (by simpa [claimMarks] using h.length_le) law.entries
  held := (heldCount_of_marks_sublist h).trans law.held
  wanted := (wantedCount_of_marks_sublist h).trans law.wanted
  distinct := law.distinct.sublist (segs_of_marks_sublist h)
  order := (order_marks l).mpr (((order_marks r).mp law.order).sublist h)

theorem ClaimLaw.of_marks {l r : List Claim} (law : ClaimLaw r) (h : claimMarks l = claimMarks r) : ClaimLaw l :=
  law.of_marks_sublist (h ▸ .refl _)

theorem ClaimLaw.of_sublist {l r : List Claim} (law : ClaimLaw r) (h : l.Sublist r) : ClaimLaw l :=
  law.of_marks_sublist (claimMarks_sublist h)

theorem ClaimLaw.parts {l : List Claim} (law : ClaimLaw l) : Parts l (l.filter (·.isHeld)) (l.filter (fun e => !e.isHeld)) :=
  .of_order law.order

/-! ### Filling and examination (R100, R102, R103) -/

theorem ClaimLaw.append {l : List Claim} {e : Claim} (law : ClaimLaw l) (he : e.isHeld = false) (hfree : ∀ x ∈ l, x.seg ≠ e.seg)
    (hroom : wantedCount l < 4) : ClaimLaw (l ++ [e]) := by
  have hparts := law.parts
  obtain ⟨hheld, -, hdistinct⟩ := hparts.law_iff.mp law
  have hparts' : Parts (l ++ [e]) (l.filter (·.isHeld)) (l.filter (fun e => !e.isHeld) ++ [e]) := by
    refine ⟨?_, hparts.held, fun x hx => ?_⟩
    · rw [← List.append_assoc, ← hparts.list]
    · obtain hx | hx := List.mem_append.mp hx
      · exact hparts.wanted x hx
      · exact List.mem_singleton.mp hx ▸ he
  refine hparts'.law_iff.mpr ⟨hheld, ?_, ?_⟩
  · rw [List.length_append, List.length_singleton]
    exact hroom
  · rw [List.map_append, List.nodup_append]
    refine ⟨hdistinct, List.nodup_singleton _, fun g hg g' hg' heq => ?_⟩
    obtain ⟨x, hx, rfl⟩ := List.mem_map.mp hg
    exact hfree x hx (heq.trans (List.mem_singleton.mp hg'))

theorem fillRepeat_law (n : Nat) {s : State} (law : ClaimLaw s.claim.list) : ClaimLaw (fillRepeat n s).claim.list := by
  induction n generalizing s with
  | zero => exact law
  | succ n ih =>
    rw [fillRepeat]
    cases hnext : s.fillNext with
    | none => exact law
    | some e =>
      obtain ⟨he, hfree, hroom, -⟩ := State.fillNext_some hnext
      exact ih (s := s.setClaims (s.claim.list ++ [e])) (law.append he hfree hroom)

theorem State.fill_law {s : State} (law : ClaimLaw s.claim.list) : ClaimLaw s.fill.claim.list := fillRepeat_law _ law

theorem ClaimLaw.promoteFirst {l : List Claim} {w : Claim} (law : ClaimLaw l) (hw : firstWanted l = some w)
    (hroom : heldCount l < 8) : ClaimLaw (promoteFirst l) := by
  have hsegs : ((Machine.promoteFirst l).map (·.seg)).Nodup := by rw [promoteFirst_segs]; exact law.distinct
  obtain ⟨pre, post, rfl, hpre, hheld⟩ := firstWanted_some hw
  have hpost : ∀ x ∈ w :: post, x.isHeld = false := by
    have horder := (List.pairwise_append.mp law.order).2.1
    exact List.forall_mem_cons.mpr ⟨hheld, fun x hx => List.rel_of_pairwise_cons horder hx hheld⟩
  have hparts : Parts (pre ++ w :: post) pre (w :: post) := ⟨rfl, hpre, hpost⟩
  obtain ⟨-, hwanted, -⟩ := hparts.law_iff.mp law
  rw [hparts.heldCount] at hroom
  rw [promoteFirst_of_first pre post w hpre hheld] at hsegs ⊢
  have hparts' : Parts (pre ++ w.promoted :: post) (pre ++ [w.promoted]) post := by
    refine ⟨by simp, fun x hx => ?_, fun x hx => hpost x (List.mem_cons_of_mem _ hx)⟩
    obtain hx | hx := List.mem_append.mp hx
    · exact hpre x hx
    · exact List.mem_singleton.mp hx ▸ rfl
  refine hparts'.law_iff.mpr ⟨?_, (Nat.le_succ _).trans hwanted, hsegs⟩
  rw [List.length_append, List.length_singleton]
  exact hroom

theorem cascade_law (n : Nat) {s : State} (law : ClaimLaw s.claim.list) : ClaimLaw (cascade n s).1.claim.list := by
  induction n generalizing s with
  | zero => exact law
  | succ n ih =>
    by_cases hstop : ∀ w, firstWanted s.claim.list = some w → s.promotes w = false
    · rw [cascade_stops (n + 1) hstop]
      exact law
    · simp only [not_forall, Bool.not_eq_false] at hstop
      obtain ⟨w, hw, hp⟩ := hstop
      rw [cascade_promotes n hw hp]
      exact ih (s := s.setClaims (promoteFirst s.claim.list)) (law.promoteFirst hw ((s.promotes_iff w).mp hp).1)

theorem State.examine_law {s : State} (law : ClaimLaw s.claim.list) : ClaimLaw s.examine.claim.list := by
  have htest : ClaimLaw (cascade Config.claimCapacity s).1.testFaceOff.claim.list := by
    rw [State.testFaceOff_claim _ |>.1]
    exact cascade_law _ law
  unfold State.examine
  dsimp only
  split
  · exact State.fill_law htest
  · exact htest

/-! ### Release behind the body (R109, R111) -/

/-- What step 2 takes out of the list. -/
def State.Leaves (s : State) (b : Body) (e : Claim) : Prop :=
  (e.state = .wanted ∧ e.spanStart + s.map.lengthOf e.seg ≤ b.rear) ∨
  (e.state = .held ∧ (s.releaseMargin < b.rear - (e.spanStart + s.map.lengthOf e.seg) ∨
    (e.tie = .detached ∧ b.front ≤ e.spanStart)))

theorem State.leavesBehind_iff (s : State) (b : Body) (e : Claim) : s.leavesBehind b e = true ↔ s.Leaves b e := by
  unfold State.leavesBehind State.Leaves State.claimStop Body.passed Body.sees
  cases e.state with
  | wanted => simp
  | held => cases e.tie <;> simp [or_comm]

theorem State.releaseBehind_none {s : State} (h : s.body = none) : s.releaseBehind = (s, []) := by
  rw [State.releaseBehind, h]

theorem State.releaseBehind_body {s : State} {b : Body} (h : s.body = some b) : s.releaseBehind =
    (s.setClaims (s.claim.list.filter (fun e => !s.leavesBehind b e)),
      s.claim.list.filter (fun e => e.isHeld && s.leavesBehind b e)) := by
  rw [State.releaseBehind, h]

theorem State.mem_releaseBehind {s : State} {b : Body} (h : s.body = some b) (e : Claim) :
    e ∈ s.releaseBehind.1.claim.list ↔ e ∈ s.claim.list ∧ ¬ s.Leaves b e := by
  rw [State.releaseBehind_body h, ← s.leavesBehind_iff]
  simp

theorem State.mem_releaseBehind_released {s : State} {b : Body} (h : s.body = some b) (e : Claim) :
    e ∈ s.releaseBehind.2 ↔ e ∈ s.claim.list ∧ e.state = .held ∧ s.Leaves b e := by
  rw [State.releaseBehind_body h, ← s.leavesBehind_iff, ← Claim.isHeld_iff]
  simp

theorem State.releaseBehind_sublist (s : State) :
    s.releaseBehind.1.claim.list.Sublist s.claim.list ∧ s.releaseBehind.2.Sublist s.claim.list := by
  cases hb : s.body with
  | none =>
    rw [State.releaseBehind_none hb]
    exact ⟨.refl _, List.nil_sublist _⟩
  | some b =>
    rw [State.releaseBehind_body hb]
    exact ⟨List.filter_sublist, List.filter_sublist⟩

/-! ### Recording double holds (R108) -/

/-- The pairs of a peer that the record takes from segments in order: those it does not hold, while it has room. -/
def newPairs (peer : Nat) (doubles : List (Nat × Nat)) (gs : List Nat) : List Nat :=
  gs.filter (fun g => !doubles.contains (peer, g))

/-- What recording the pairs of a peer with segments makes of a state. -/
structure State.Records (s : State) (peer : Nat) (gs : List Nat) (t : State) : Prop where
  claim : t.claim = { s.claim with doubles := s.claim.doubles ++
    ((newPairs peer s.claim.doubles gs).take (16 - s.claim.doubles.length)).map (fun g => (peer, g)) }
  flag : ∀ e, t.flag e = (s.flag e || decide (e = .doubleHold ∧ newPairs peer s.claim.doubles gs ≠ []))
  rest : { t with claim := s.claim, port := s.port } = s
  port : { t.port with flags := s.port.flags } = s.port

theorem State.recordDouble_known {s : State} {peer g : Nat} (h : s.claim.doubles.contains (peer, g) = true) :
    s.recordDouble peer g = s := if_pos h

theorem State.recordDouble_records {s : State} {peer g : Nat} (h : s.claim.doubles.contains (peer, g) = false) :
    s.Records peer [g] (s.recordDouble peer g) := by
  have hnew : newPairs peer s.claim.doubles [g] = [g] := by simp only [newPairs, List.filter_cons, h]; rfl
  have hflag (e : Event) : decide (e = .doubleHold ∧ [g] ≠ []) = decide (e = .doubleHold) := by simp
  have hno : ¬ s.claim.doubles.contains (peer, g) = true := by rw [h]; exact Bool.false_ne_true
  rw [State.recordDouble, if_neg hno]
  by_cases hroom : s.claim.doubles.length < Config.doubleHoldCapacity
  · rw [if_pos hroom]
    have htake : [g].take (16 - s.claim.doubles.length) = [g] := by
      refine List.take_of_length_le ?_
      rw [List.length_singleton]
      exact Nat.sub_pos_of_lt hroom
    refine ⟨?_, fun e => ?_, rfl, rfl⟩
    · rw [hnew, htake]
      rfl
    · rw [hnew, hflag]
      exact s.flag_raise_eq e .doubleHold
  · rw [if_neg hroom]
    have htake : [g].take (16 - s.claim.doubles.length) = [] := by
      rw [show 16 - s.claim.doubles.length = 0 from Nat.sub_eq_zero_of_le (Nat.not_lt.mp hroom), List.take_zero]
    refine ⟨?_, fun e => ?_, rfl, rfl⟩
    · rw [hnew, htake, List.map_nil, List.append_nil]
      rfl
    · rw [hnew, hflag]
      exact s.flag_raise_eq e .doubleHold

theorem State.Records.nil (s : State) (peer : Nat) : s.Records peer [] s :=
  ⟨by simp [newPairs], fun e => by simp [newPairs], rfl, rfl⟩

/-- A pair known already is passed over. -/
theorem State.Records.known {s t : State} {peer g : Nat} {gs : List Nat} (h : s.claim.doubles.contains (peer, g) = true)
    (ht : s.Records peer gs t) : s.Records peer (g :: gs) t := by
  have hnew : newPairs peer s.claim.doubles (g :: gs) = newPairs peer s.claim.doubles gs := by
    simp only [newPairs, List.filter_cons, h, Bool.not_true, Bool.false_eq_true, if_false]
  exact ⟨hnew ▸ ht.claim, hnew ▸ ht.flag, ht.rest, ht.port⟩

/-- A new pair, and then those of other segments. -/
theorem State.Records.cons {s u t : State} {peer g : Nat} {gs : List Nat} (h : s.claim.doubles.contains (peer, g) = false)
    (hg : g ∉ gs) (hu : s.Records peer [g] u) (ht : u.Records peer gs t) : s.Records peer (g :: gs) t := by
  have hone : newPairs peer s.claim.doubles [g] = [g] := by simp only [newPairs, List.filter_cons, h]; rfl
  have hcons : newPairs peer s.claim.doubles (g :: gs) = g :: newPairs peer s.claim.doubles gs := by
    simp only [newPairs, List.filter_cons, h, Bool.not_false, if_true]
  have hdoubles : u.claim.doubles = s.claim.doubles ++ ([g].take (16 - s.claim.doubles.length)).map (fun g => (peer, g)) := by
    rw [hu.claim, hone]
  have hnew : newPairs peer u.claim.doubles gs = newPairs peer s.claim.doubles gs := by
    refine List.filter_congr fun x hx => ?_
    have hx' : x ≠ g := fun heq => hg (heq ▸ hx)
    rw [hdoubles, Bool.eq_iff_iff]
    simp only [Bool.not_eq_true', ← Bool.not_eq_true, List.contains_iff_mem, List.mem_append, List.mem_map]
    refine not_congr ⟨fun hm => hm.resolve_right ?_, .inl⟩
    rintro ⟨y, hy, heq⟩
    have hy' := List.mem_singleton.mp (List.mem_of_mem_take hy)
    exact hx' ((congrArg Prod.snd heq).symm.trans hy')
  refine ⟨?_, fun e => ?_, ?_, ?_⟩
  · have hlist : u.claim.doubles ++ ((newPairs peer u.claim.doubles gs).take (16 - u.claim.doubles.length)).map (fun g => (peer, g)) =
        s.claim.doubles ++ ((newPairs peer s.claim.doubles (g :: gs)).take (16 - s.claim.doubles.length)).map (fun g => (peer, g)) := ?_
    · rw [ht.claim, hlist, hu.claim]
    rw [hnew, hcons, hdoubles, List.append_assoc, ← List.map_append]
    refine congrArg (fun l : List Nat => s.claim.doubles ++ l.map (fun g => (peer, g))) ?_
    cases hroom : 16 - s.claim.doubles.length with
    | zero =>
      have hfull : 16 - (s.claim.doubles ++ ([g].take 0).map (fun g => (peer, g))).length = 0 := by simpa using hroom
      rw [hfull]
      simp
    | succ n =>
      have hleft : 16 - (s.claim.doubles ++ ([g].take (n + 1)).map (fun g => (peer, g))).length = n := by
        simp only [List.take_succ_cons, List.take_nil, List.map_cons, List.map_nil, List.length_append, List.length_singleton]
        omega
      rw [hleft]
      simp
  · rw [ht.flag, hu.flag, hone, hcons, Bool.eq_iff_iff]
    simp only [Bool.or_eq_true, decide_eq_true_eq]
    constructor
    · rintro ((h | ⟨h, -⟩) | ⟨h, -⟩)
      · exact .inl h
      · exact .inr ⟨h, List.cons_ne_nil _ _⟩
      · exact .inr ⟨h, List.cons_ne_nil _ _⟩
    · rintro (h | ⟨h, -⟩)
      · exact .inl (.inl h)
      · exact .inl (.inr ⟨h, List.cons_ne_nil _ _⟩)
  · have h1 : { t with claim := s.claim, port := s.port } = { u with claim := s.claim, port := s.port } :=
      (congrArg (fun w : State => { w with claim := s.claim, port := s.port }) ht.rest :)
    exact h1.trans hu.rest
  · have h1 : { t.port with flags := s.port.flags } = { u.port with flags := s.port.flags } :=
      (congrArg (fun w => { w with flags := s.port.flags }) ht.port :)
    exact h1.trans hu.port

theorem recordDoubles_records (peer : Nat) {gs : List Nat} (hgs : gs.Nodup) (s : State) :
    s.Records peer gs (gs.foldl (fun t g => t.recordDouble peer g) s) := by
  induction gs generalizing s with
  | nil => exact .nil s peer
  | cons g gs ih =>
    obtain ⟨hg, hrest⟩ := List.nodup_cons.mp hgs
    rw [List.foldl_cons]
    cases hknown : s.claim.doubles.contains (peer, g) with
    | true =>
      rw [State.recordDouble_known hknown]
      exact .known hknown (ih hrest s)
    | false => exact .cons hknown hg (State.recordDouble_records hknown) (ih hrest _)

/-! ### Turning back (R107) -/

/-- A HELD entry turned back, a WANTED one as it is. -/
def Claim.wantedAgain (x : Claim) : Claim := if x.isHeld then x.turnedBack else x

theorem Claim.wantedAgain_isHeld (x : Claim) : x.wantedAgain.isHeld = false := by
  unfold Claim.wantedAgain
  split
  · rfl
  · next h => exact Bool.eq_false_iff.mpr h

theorem Claim.wantedAgain_seg (x : Claim) : x.wantedAgain.seg = x.seg := by
  unfold Claim.wantedAgain
  split <;> rfl

theorem turnBackFrom_at {pre post : List Claim} {e : Claim} (hpre : ∀ x ∈ pre, x.seg ≠ e.seg) (he : e.isHeld = true) :
    turnBackFrom e.seg (pre ++ e :: post) = pre ++ (e :: post).map Claim.wantedAgain := by
  induction pre with
  | nil =>
    have hself : (e.isHeld && e.seg == e.seg) = true := by simp [he]
    exact if_pos hself
  | cons x pre ih =>
    have hx : ¬ (x.isHeld && x.seg == e.seg) = true := by simp [hpre x List.mem_cons_self]
    rw [List.cons_append, turnBackFrom, if_neg hx, ih fun y hy => hpre y (List.mem_cons_of_mem _ hy)]
    rfl

/-- Dropping from the far end leaves four WANTED entries. -/
theorem dropExcess_tail {pre post : List Claim} (n : Nat) (hpost : ∀ x ∈ post, x.isHeld = false) (hn : post.length ≤ n)
    (hpre : ∀ x ∈ pre, x.isHeld = true) (hlen : (pre ++ post).length ≤ 12) :
    dropExcess n (pre ++ post) = pre ++ post.take 4 := by
  induction n generalizing post with
  | zero =>
    obtain rfl := List.length_eq_zero_iff.mp (Nat.le_zero.mp hn)
    rfl
  | succ n ih =>
    have hcount : wantedCount (pre ++ post) = post.length := (Parts.mk rfl hpre hpost).wantedCount
    have hwithin : ¬ Config.claimCapacity < (pre ++ post).length := Nat.not_lt.mpr hlen
    rw [dropExcess, hcount]
    by_cases hmany : Config.wantedCapacity < post.length
    · obtain rfl | ⟨init, x, rfl⟩ := List.eq_nil_or_concat' post
      · exact absurd hmany (Nat.not_lt_zero _)
      · have hdrop : dropFarthest (pre ++ (init ++ [x])) = pre ++ init := by
          have hx : (!x.isHeld) = true := by simp [hpost x (by simp)]
          have hmap := mapLast_at (g := fun _ => []) (pre := pre ++ init) (post := []) (f := fun e => !e.isHeld) hx nofun
          rw [dropFarthest, ← List.append_assoc, hmap]
          simp
        have hfour : 4 ≤ init.length := by
          rw [List.length_append, List.length_singleton] at hmany
          exact Nat.le_of_lt_succ hmany
        rw [if_pos (.inl hmany), hdrop, ih (fun y hy => hpost y (List.mem_append_left _ hy)) ?_ ?_, List.take_append_of_le_length hfour]
        · simp only [List.length_append, List.length_singleton] at hn
          exact Nat.le_of_succ_le_succ hn
        · simp only [List.length_append, List.length_singleton] at hlen ⊢
          omega
    · have hself : post.take 4 = post := List.take_of_length_le (Nat.not_lt.mp hmany)
      rw [if_neg (not_or.mpr ⟨hmany, hwithin⟩), hself]

theorem ClaimLaw.before {pre post : List Claim} {e : Claim} (law : ClaimLaw (pre ++ e :: post)) (he : e.isHeld = true) :
    ∀ x ∈ pre, x.isHeld = true ∧ x.seg ≠ e.seg := by
  intro x hx
  have horder := (List.pairwise_append.mp law.order).2.2 x hx e List.mem_cons_self
  have hd := law.distinct
  rw [List.map_append, List.nodup_append] at hd
  refine ⟨?_, hd.2.2 _ (List.mem_map.mpr ⟨x, hx, rfl⟩) _ List.mem_cons_self⟩
  by_contra hno
  exact nomatch he.symm.trans (horder (Bool.eq_false_iff.mpr hno))

section
variable {pre post : List Claim} {e : Claim} (law : ClaimLaw (pre ++ e :: post)) (he : e.isHeld = true)
include law he

/-- The turn-back of a HELD entry and every one after it, in a list that keeps the law. -/
theorem ClaimLaw.turnBack : capWanted (turnBackFrom e.seg (pre ++ e :: post)) =
    (pre ++ (e :: post).map Claim.wantedAgain).take (pre.length + 4) := by
  have hwanted : ∀ x ∈ (e :: post).map Claim.wantedAgain, x.isHeld = false := fun x hx => by
    obtain ⟨y, -, rfl⟩ := List.mem_map.mp hx
    exact y.wantedAgain_isHeld
  have hlen : (pre ++ (e :: post).map Claim.wantedAgain).length = (pre ++ e :: post).length := by simp
  rw [turnBackFrom_at (fun x hx => (law.before he x hx).2) he, capWanted,
    dropExcess_tail _ hwanted (by simp) (fun x hx => (law.before he x hx).1) (hlen ▸ law.entries), List.take_append,
    Nat.add_sub_cancel_left, List.take_of_length_le (Nat.le_add_right _ 4)]

theorem ClaimLaw.turned : ClaimLaw ((pre ++ (e :: post).map Claim.wantedAgain).take (pre.length + 4)) := by
  have hwanted : ∀ x ∈ ((e :: post).map Claim.wantedAgain).take 4, x.isHeld = false := fun x hx => by
    obtain ⟨y, -, rfl⟩ := List.mem_map.mp (List.mem_of_mem_take hx)
    exact y.wantedAgain_isHeld
  have hparts : Parts ((pre ++ (e :: post).map Claim.wantedAgain).take (pre.length + 4)) pre
      (((e :: post).map Claim.wantedAgain).take 4) :=
    ⟨by rw [List.take_append, Nat.add_sub_cancel_left, List.take_of_length_le (Nat.le_add_right _ 4)],
      fun x hx => (law.before he x hx).1, hwanted⟩
  have hsegs : (pre ++ (e :: post).map Claim.wantedAgain).map (·.seg) = (pre ++ e :: post).map (·.seg) := by
    rw [List.map_append, List.map_append, List.map_map]
    exact congrArg _ (List.map_congr_left fun x _ => x.wantedAgain_seg)
  refine hparts.law_iff.mpr ⟨?_, List.length_take_le _ _, ?_⟩
  · have := law.held
    rw [heldCount_append, heldCount_cons, he, if_pos rfl] at this
    have hpre : heldCount pre = pre.length := (Parts.mk (List.append_nil pre).symm (fun x hx => (law.before he x hx).1) nofun).heldCount
    rw [hpre, Config.heldCapacity] at this
    omega
  · exact (hsegs ▸ law.distinct).sublist ((List.take_sublist _ _).map _)

end

/-! ### The double-hold test (R107) -/

/-- The entries of a list that stand in double hold with a peer. -/
def standingIn (m : MapStore) (held : List Nat) (l : List Claim) : List Nat :=
  (l.filter (fun e => e.isHeld && m.conflictHit held e.seg)).map (·.seg)

theorem standingIn_nodup (m : MapStore) (held : List Nat) {l : List Claim} (h : (l.map (·.seg)).Nodup) :
    (standingIn m held l).Nodup := h.sublist (List.filter_sublist.map _)

/-- An entry gives way to a peer (R107). -/
def State.GivesWay (s : State) (b : Body) (p : Peer) (e : Claim) : Prop :=
  e.isHeld = true ∧ s.map.conflictHit p.held e.seg = true ∧ b.front ≤ e.spanStart ∧ s.outranks p = true

theorem State.recordDouble_rest (s : State) (peer g : Nat) :
    { s.recordDouble peer g with claim := s.claim, port := s.port } = s ∧
      { (s.recordDouble peer g).claim with doubles := s.claim.doubles } = s.claim := by
  unfold State.recordDouble
  split
  · exact ⟨rfl, rfl⟩
  · dsimp only
    split <;> exact ⟨rfl, rfl⟩

theorem State.recordDouble_outranks (s : State) (peer g : Nat) (p : Peer) : (s.recordDouble peer g).outranks p = s.outranks p := by
  obtain ⟨hrest, hclaim⟩ := s.recordDouble_rest peer g
  have hprec : (s.recordDouble peer g).claim.prec = s.claim.prec := (congrArg ClaimUnit.prec hclaim :)
  have hctl : (s.recordDouble peer g).ctl = s.ctl := (congrArg State.ctl hrest :)
  rw [State.outranks, State.outranks, hprec, hctl]

theorem State.recordDouble_map (s : State) (peer g : Nat) : (s.recordDouble peer g).map = s.map :=
  (congrArg State.map (s.recordDouble_rest peer g).1 :)

/-- The walk over entries none of which gives way records those in double hold, and goes on. -/
theorem doubleHoldWalk_stands (b : Body) (p : Peer) {l : List Claim} (rest : List Claim) {s : State}
    (h : ∀ x ∈ l, ¬ s.GivesWay b p x) :
    doubleHoldWalk b p (l ++ rest) s =
      doubleHoldWalk b p rest ((standingIn s.map p.held l).foldl (fun t g => t.recordDouble p.id g) s) := by
  induction l generalizing s with
  | nil => rfl
  | cons x l ih =>
    obtain ⟨hx, hl⟩ := List.forall_mem_cons.mp h
    rw [List.cons_append, doubleHoldWalk]
    by_cases hstands : (x.isHeld && s.map.conflictHit p.held x.seg) = true
    · have hway : ¬ (s.outranks p && b.sees x.spanStart) = true := fun hh => by
        rw [Bool.and_eq_true] at hh hstands
        exact hx ⟨hstands.1, hstands.2, of_decide_eq_true hh.2, hh.1⟩
      have hcons : standingIn s.map p.held (x :: l) = x.seg :: standingIn s.map p.held l := by
        rw [standingIn, List.filter_cons, if_pos hstands]
        rfl
      have hmap := s.recordDouble_map p.id x.seg
      have hl' : ∀ y ∈ l, ¬ (s.recordDouble p.id x.seg).GivesWay b p y := fun y hy hg => by
        rw [State.GivesWay, hmap, s.recordDouble_outranks] at hg
        exact hl y hy hg
      rw [if_pos hstands, if_neg hway, ih hl', hmap, hcons]
      rfl
    · have hcons : standingIn s.map p.held (x :: l) = standingIn s.map p.held l := by
        rw [standingIn, List.filter_cons, if_neg hstands]
        rfl
      rw [if_neg hstands, ih hl, hcons]

theorem State.Records.outranks {s t : State} {peer : Nat} {gs : List Nat} (h : s.Records peer gs t) (p : Peer) :
    t.outranks p = s.outranks p := by
  have hctl : t.ctl = s.ctl := (congrArg State.ctl h.rest :)
  rw [State.outranks, State.outranks, hctl, h.claim]

theorem doubleHoldWalk_turns (b : Body) (p : Peer) {pre post : List Claim} {e : Claim} {s : State}
    (hl : (pre.map (·.seg)).Nodup) (he : s.GivesWay b p e) (hpre : ∀ x ∈ pre, ¬ s.GivesWay b p x) :
    ∃ t, s.Records p.id (standingIn s.map p.held pre) t ∧
      doubleHoldWalk b p (pre ++ e :: post) s = t.setClaims (capWanted (turnBackFrom e.seg s.claim.list)) := by
  have hrec := recordDoubles_records p.id (standingIn_nodup s.map p.held hl) s
  obtain ⟨hheld, hhit, hahead, hrank⟩ := he
  refine ⟨_, hrec, ?_⟩
  rw [doubleHoldWalk_stands b p _ hpre]
  generalize (standingIn s.map p.held pre).foldl (fun t g => t.recordDouble p.id g) s = t at hrec
  have hmap : t.map = s.map := (congrArg State.map hrec.rest :)
  have hstands : (e.isHeld && t.map.conflictHit p.held e.seg) = true := by rw [hheld, hmap, hhit]; rfl
  have hway : (t.outranks p && b.sees e.spanStart) = true := by
    rw [hrec.outranks, hrank, Bool.true_and]
    exact decide_eq_true hahead
  rw [doubleHoldWalk, if_pos hstands, if_pos hway, hrec.claim]

/-- The pairs that still stand at an accepted notice (R108). -/
def State.standingPairs (s : State) (p : Peer) : List (Nat × Nat) :=
  s.claim.doubles.filter (fun d => d.1 != p.id || s.map.conflictHit p.held d.2)

/-- The state with the pairs that no longer stand taken out of the record. -/
def State.cleared (s : State) (p : Peer) : State := { s with claim := { s.claim with doubles := s.standingPairs p } }

theorem ownAccepted_idle {s : State} (p : Peer) (h : s.body = none ∨ ¬ (s.ctl.state = .joining ∨ s.ctl.state = .run)) :
    (ownAccepted p s).1 = s.cleared p := by
  have hbody : (s.cleared p).body = s.body := rfl
  have hwork : (s.cleared p).working = s.working := rfl
  rw [← s.working_iff] at h
  change (match (s.cleared p).body with
    | some b => if (s.cleared p).working then doubleHoldWalk b p (s.cleared p).claim.list (s.cleared p) else s.cleared p
    | none => s.cleared p) = _
  rw [hbody, hwork]
  cases hb : s.body with
  | none => rfl
  | some b => exact if_neg (h.resolve_left (by rw [hb]; exact nofun))

theorem ownAccepted_walks {s : State} {b : Body} (p : Peer) (hb : s.body = some b)
    (h : s.ctl.state = .joining ∨ s.ctl.state = .run) :
    (ownAccepted p s).1 = doubleHoldWalk b p s.claim.list (s.cleared p) := by
  have hbody : (s.cleared p).body = some b := hb
  have hwork : (s.cleared p).working = true := s.working_iff.mpr h
  change (match (s.cleared p).body with
    | some b => if (s.cleared p).working then doubleHoldWalk b p (s.cleared p).claim.list (s.cleared p) else s.cleared p
    | none => s.cleared p) = _
  rw [hbody]
  exact if_pos hwork

section
variable {s : State} {b : Body} (p : Peer) (hb : s.body = some b) (hwork : s.ctl.state = .joining ∨ s.ctl.state = .run)
include hb hwork

theorem ownAccepted_stands (hd : (s.claim.list.map (·.seg)).Nodup) (h : ∀ e ∈ s.claim.list, ¬ s.GivesWay b p e) :
    (s.cleared p).Records p.id (standingIn s.map p.held s.claim.list) (ownAccepted p s).1 := by
  have hwalk := doubleHoldWalk_stands b p (s := s.cleared p) [] h
  rw [List.append_nil] at hwalk
  rw [ownAccepted_walks p hb hwork, hwalk]
  exact recordDoubles_records p.id (standingIn_nodup s.map p.held hd) (s.cleared p)

theorem ownAccepted_turns {pre post : List Claim} {e : Claim} (law : ClaimLaw s.claim.list) (hl : s.claim.list = pre ++ e :: post)
    (he : s.GivesWay b p e) (hpre : ∀ x ∈ pre, ¬ s.GivesWay b p x) :
    ∃ t, (s.cleared p).Records p.id (standingIn s.map p.held pre) t ∧
      (ownAccepted p s).1 = t.setClaims ((pre ++ (e :: post).map Claim.wantedAgain).take (pre.length + 4)) := by
  have hd := law.distinct
  rw [hl, List.map_append, List.nodup_append] at hd
  obtain ⟨t, hrec, hwalk⟩ := doubleHoldWalk_turns b p (post := post) (s := s.cleared p) hd.1 he hpre
  refine ⟨t, hrec, ?_⟩
  rw [ownAccepted_walks p hb hwork, hl, hwalk]
  exact congrArg (fun l => t.setClaims l) (hl ▸ ClaimLaw.turnBack (hl ▸ law) he.1)

end

/-- A list has a first entry of a kind, or none. -/
theorem first_split (f : Claim → Prop) (l : List Claim) :
    (∀ x ∈ l, ¬ f x) ∨ ∃ pre e post, l = pre ++ e :: post ∧ f e ∧ ∀ x ∈ pre, ¬ f x := by
  classical
  cases hfind : l.find? (fun x => decide (f x)) with
  | none => exact .inl fun x hx => by simpa using List.find?_eq_none.mp hfind x hx
  | some e =>
    obtain ⟨he, pre, post, rfl, hpre⟩ := List.find?_eq_some_iff_append.mp hfind
    exact .inr ⟨pre, e, post, rfl, of_decide_eq_true he, fun x hx => by simpa using hpre x hx⟩

/-- The test keeps the law. -/
theorem ownAccepted_law {s : State} (p : Peer) (law : ClaimLaw s.claim.list) : ClaimLaw (ownAccepted p s).1.claim.list := by
  by_cases hidle : s.body = none ∨ ¬ (s.ctl.state = .joining ∨ s.ctl.state = .run)
  · rw [ownAccepted_idle p hidle]
    exact law
  · rw [not_or, not_not] at hidle
    obtain ⟨b, hb⟩ := Option.ne_none_iff_exists'.mp hidle.1
    obtain hstands | ⟨pre, e, post, hl, he, hpre⟩ := first_split (s.GivesWay b p) s.claim.list
    · rw [(ownAccepted_stands p hb hidle.2 law.distinct hstands).claim]
      exact law
    · obtain ⟨t, -, ht⟩ := ownAccepted_turns p hb hidle.2 law hl he hpre
      rw [ht]
      exact ClaimLaw.turned (hl ▸ law) he.1

/-! ### A route change (R110) -/

/-- A tied entry that the new route holds at its place. -/
def Claim.Matched (entries : List RouteEntry) (e : Claim) : Prop := ∃ i r, e.tie = .route i ∧ entries[i]? = some r ∧ r.seg = e.seg

theorem markUnmatched_stands {entries : List RouteEntry} {l : List Claim} (rest : List Claim)
    (h : ∀ x ∈ l, x.tie = .detached ∨ x.Matched entries) :
    markUnmatched entries false (l ++ rest) = l.map (fun x => (x, false)) ++ markUnmatched entries false rest := by
  induction l with
  | nil => rfl
  | cons x l ih =>
    obtain ⟨hx, hl⟩ := List.forall_mem_cons.mp h
    have hcons : markUnmatched entries false (x :: (l ++ rest)) = (x, false) :: markUnmatched entries false (l ++ rest) := by
      obtain hx | ⟨i, r, hx, hr, hseg⟩ := hx
      · simp only [markUnmatched, hx]
      · simp only [markUnmatched, hx, hr, hseg, bne_self_eq_false, Bool.or_self]
    rw [List.cons_append, hcons, ih hl]
    rfl

theorem markUnmatched_broken (entries : List RouteEntry) (l : List Claim) :
    markUnmatched entries true l = l.map (fun x => (x, decide (x.tie ≠ .detached))) := by
  induction l with
  | nil => rfl
  | cons x l ih => cases hx : x.tie <;> simp [markUnmatched, hx, ih]

theorem markUnmatched_breaks {entries : List RouteEntry} {e : Claim} (rest : List Claim) (htied : e.tie ≠ .detached)
    (hno : ¬ e.Matched entries) :
    markUnmatched entries false (e :: rest) = (e :: rest).map (fun x => (x, decide (x.tie ≠ .detached))) := by
  cases ht : e.tie with
  | detached => exact absurd ht htied
  | route i =>
    have hmiss (r : RouteEntry) (hr : entries[i]? = some r) : (r.seg != e.seg) = true :=
      bne_iff_ne.mpr fun heq => hno ⟨i, r, ht, hr, heq⟩
    cases hr : entries[i]? with
    | none => simp [markUnmatched, ht, hr, markUnmatched_broken]
    | some r => simp [markUnmatched, ht, hr, hmiss r hr, markUnmatched_broken]

/-- What becomes of an entry from the first unmatched one on. -/
def State.rematched (s : State) (x : Claim) : Option Claim :=
  if x.tie = .detached then some x
  else if x.state = .held ∧ s.detaches x = true then some { x with tie := .detached } else none

theorem ownRouteChange_stands {s : State} (h : ∀ e ∈ s.claim.list, e.tie = .detached ∨ e.Matched s.route.entries) :
    ownRouteChange s = (s.setClaims s.claim.list, []) := by
  have hmark := markUnmatched_stands [] h
  rw [List.append_nil] at hmark
  have hkept : ((s.claim.list.map (fun x => (x, false))).filterMap (fun p : Claim × Bool => if !p.2 then some p.1
      else if p.1.isHeld && s.detaches p.1 then some { p.1 with tie := .detached } else none)) = s.claim.list := by
    rw [List.filterMap_map]
    exact List.filterMap_some
  have hreleased : (s.claim.list.map (fun x => (x, false))).filter (fun p => p.2 && p.1.isHeld && !s.detaches p.1) = [] := by simp
  rw [ownRouteChange, hmark, markUnmatched, List.append_nil, hkept, hreleased]
  rfl

theorem ownRouteChange_breaks {s : State} {pre post : List Claim} {e : Claim} (hl : s.claim.list = pre ++ e :: post)
    (hpre : ∀ x ∈ pre, x.tie = .detached ∨ x.Matched s.route.entries) (htied : e.tie ≠ .detached)
    (hno : ¬ e.Matched s.route.entries) :
    ownRouteChange s = (s.setClaims (pre ++ (e :: post).filterMap s.rematched),
      (e :: post).filter (fun x => decide (x.tie ≠ .detached ∧ x.state = .held ∧ s.detaches x = false))) := by
  have hmark : markUnmatched s.route.entries false s.claim.list =
      pre.map (fun x => (x, false)) ++ (e :: post).map (fun x => (x, decide (x.tie ≠ .detached))) := by
    rw [hl, markUnmatched_stands _ hpre, markUnmatched_breaks post htied hno]
  rw [ownRouteChange, hmark]
  refine Prod.ext (congrArg (fun l => s.setClaims l) ?_) ?_
  · dsimp only
    rw [List.filterMap_append, List.filterMap_map, List.filterMap_map]
    refine congrArg₂ (· ++ ·) List.filterMap_some (List.filterMap_congr fun x _ => ?_)
    by_cases hx : x.tie = .detached
    · simp [State.rematched, hx]
    · simp [State.rematched, hx, Claim.isHeld_iff]
  · dsimp only
    rw [List.filter_append, List.map_append, List.filter_map, List.filter_map]
    have hfirst : pre.filter ((fun p : Claim × Bool => p.2 && p.1.isHeld && !s.detaches p.1) ∘ fun x => (x, false)) = [] := by simp
    rw [hfirst, List.map_nil, List.map_nil, List.nil_append, List.map_map]
    refine (List.map_id _).trans (List.filter_congr fun x _ => ?_)
    rw [Bool.eq_iff_iff]
    simp [Claim.isHeld_iff, and_assoc]

theorem ownRouteChange_law {s : State} (law : ClaimLaw s.claim.list) : ClaimLaw (ownRouteChange s).1.claim.list := by
  have hmarks := routeChange_marks s (markUnmatched s.route.entries false s.claim.list)
  rw [markUnmatched_fst] at hmarks
  exact law.of_marks_sublist hmarks

end Sys2Proof.Machine
end

section
/-! PROOFS. Occupancy keeps the law of the claim list on a list that fits the route, and so does a whole event of the Claim Unit
(6.2, 6.5; O53). -/

namespace Sys2Proof.Machine

/-! ### A route laid out with segments of 500 or more -/

/-- What occupancy uses of the spans of a route. -/
structure Laid (m : MapStore) (spans : List Span) : Prop where
  index : ∀ p ∈ spans, spans[p.index]? = some p
  stop : ∀ p ∈ spans, p.stop = p.start + m.lengthOf p.seg
  long : ∀ p ∈ spans, p.start + 500 ≤ p.stop
  before : ∀ {i j : Nat} {p q : Span}, i < j → spans[i]? = some p → spans[j]? = some q → p.stop ≤ q.start
  ordered : spans.Pairwise (fun p q => p.stop ≤ q.start)

theorem State.spans_laid {s : State} (h : ∀ r ∈ s.route.entries, 500 ≤ s.map.lengthOf r.seg) : Laid s.map s.spans := by
  have hmem (p : Span) (hp : p ∈ s.spans) : s.spans[p.index]? = some p ∧ p.stop = p.start + s.map.lengthOf p.seg ∧
      500 ≤ s.map.lengthOf p.seg := by
    obtain ⟨i, hi⟩ := List.mem_iff_getElem?.mp hp
    refine ⟨by rwa [State.span_index hi], ?_⟩
    rw [s.spans_getElem?] at hi
    obtain ⟨r, hr, rfl⟩ := Option.map_eq_some_iff.mp hi
    exact ⟨rfl, h r (List.mem_of_getElem? hr)⟩
  refine ⟨fun p hp => (hmem p hp).1, fun p hp => (hmem p hp).2.1, fun p hp => ?_, fun hij hp hq => s.spans_before hij hp hq,
    s.spans_ordered⟩
  obtain ⟨-, hstop, hlong⟩ := hmem p hp
  omega

section
variable {m : MapStore} {spans : List Span} (laid : Laid m spans)
include laid

/-- Of two entries one begins where the other ends or later. -/
theorem Laid.apart {i j : Nat} {p q : Span} (hij : i ≠ j) (hp : spans[i]? = some p) (hq : spans[j]? = some q) :
    p.stop ≤ q.start ∨ q.stop ≤ p.start :=
  (Nat.lt_or_gt_of_ne hij).imp (laid.before · hp hq) (laid.before · hq hp)

/-- Entries with one start are one entry. -/
theorem Laid.of_start {i j : Nat} {p q : Span} (hp : spans[i]? = some p) (hq : spans[j]? = some q) (h : p.start = q.start) :
    p = q := by
  by_cases hij : i = j
  · subst hij
    exact Option.some.inj (hp.symm.trans hq)
  · have hlongp := laid.long p (List.mem_of_getElem? hp)
    have hlongq := laid.long q (List.mem_of_getElem? hq)
    have := laid.apart hij hp hq
    omega

end

/-! ### The list while occupancy goes over the entries under the body -/

/-- What the list meets while occupancy has the entries `rest` under the body still before it: the law but for the limit on
WANTED, the fit to the route, and no WANTED entry under the body but those of `rest`. -/
structure Occupying (m : MapStore) (spans : List Span) (b : Body) (rest : List Span) (l : List Claim) : Prop where
  held : heldCount l ≤ 8
  distinct : (l.map (·.seg)).Nodup
  order : l.Pairwise (fun x y => x.isHeld = false → y.isHeld = false)
  sorted : l.Pairwise (fun x y => x.spanStart ≤ y.spanStart)
  tied : ∀ e ∈ l, ∀ i, e.tie = .route i → ∃ p, spans[i]? = some p ∧ p.seg = e.seg ∧ p.start = e.spanStart
  detached : ∀ e ∈ l, e.tie = .detached → e.isHeld = true ∧ e.spanStart < b.front
  ahead : ∀ e ∈ l, e.isHeld = false → b.front ≤ e.spanStart ∨ ∃ p ∈ rest, p.start = e.spanStart

section
variable {m : MapStore} {spans : List Span} {b : Body} {rest : List Span} {l : List Claim} {p : Span}

theorem Occupying.sublist {l' : List Claim} (h : Occupying m spans b rest l) (hs : l'.Sublist l) : Occupying m spans b rest l' where
  held := (heldCount_sublist hs).trans h.held
  distinct := h.distinct.sublist (hs.map _)
  order := h.order.sublist hs
  sorted := h.sorted.sublist hs
  tied := fun e he => h.tied e (hs.subset he)
  detached := fun e he => h.detached e (hs.subset he)
  ahead := fun e he => h.ahead e (hs.subset he)

theorem Occupying.law (h : Occupying m spans b rest l) (hw : wantedCount l ≤ 4) : ClaimLaw l := by
  have hparts : Parts l _ _ := .of_order h.order
  exact hparts.law_iff.mpr ⟨hparts.heldCount ▸ h.held, hparts.wantedCount ▸ hw, h.distinct⟩

/-- An entry that begins where a route entry does is that route entry's. -/
theorem Occupying.seg_of_start (laid : Laid m spans) (h : Occupying m spans b rest l) (hp : p ∈ spans) {e : Claim} (he : e ∈ l)
    (hwanted : e.isHeld = false) (hstart : e.spanStart = p.start) : e.seg = p.seg := by
  cases ht : e.tie with
  | detached => exact nomatch hwanted.symm.trans (h.detached e he ht).1
  | route i =>
    obtain ⟨q, hq, hseg, hqs⟩ := h.tied e he i ht
    rw [← hseg, laid.of_start hq (laid.index p hp) (hqs.trans hstart)]

/-- A route entry whose segment is HELD is passed over. -/
theorem Occupying.skip (laid : Laid m spans) (h : Occupying m spans b (p :: rest) l) (hp : p ∈ spans)
    (hheld : p.seg ∈ heldIds l) : Occupying m spans b rest l := by
  refine { h with ahead := fun e he hwanted => ?_ }
  obtain hfront | ⟨q, hq, hstart⟩ := h.ahead e he hwanted
  · exact .inl hfront
  · obtain rfl | hq := List.mem_cons.mp hq
    · obtain ⟨x, hx, hxheld, hseg⟩ := mem_heldIds.mp hheld
      have hsame := h.seg_of_start laid hp he hwanted hstart.symm
      obtain rfl := List.inj_on_of_nodup_map h.distinct hx he (hseg.trans hsame.symm)
      exact nomatch hwanted.symm.trans hxheld
    · exact .inr ⟨q, hq, hstart⟩

/-- An entry that begins before every entry of the last part goes into the first part. -/
theorem insertClaim_append {x : Claim} {pre post : List Claim} (h : ∀ w ∈ post, x.spanStart < w.spanStart) :
    insertClaim x (pre ++ post) = insertClaim x pre ++ post := by
  induction pre with
  | nil =>
    cases post with
    | nil => rfl
    | cons w post => exact if_pos (.inl (h w List.mem_cons_self))
  | cons e pre ih =>
    rw [List.cons_append, insertClaim, insertClaim, ih]
    split <;> rfl

/-- A route entry under the body entered where there is room. -/
theorem Occupying.enter (laid : Laid m spans) (h : Occupying m spans b (p :: rest) l) (hroom : heldCount l < 8) (hp : p ∈ spans)
    (hfront : p.start < b.front) (hrest : ∀ q ∈ rest, p.start < q.start) :
    Occupying m spans b rest (capWanted (insertClaim (p.claim .held) (takeListed p l))) := by
  have hsub := takeListed_sublist p l
  have hfree := takeListed_free p l h.distinct
  have hroom' := (heldCount_sublist hsub).trans_lt hroom
  have h' := h.sublist hsub
  generalize takeListed p l = l' at hfree hroom' h'
  have hafter : ∀ e ∈ l', e.isHeld = false → p.start < e.spanStart := fun e he hwanted => by
    obtain hf | ⟨q, hq, hstart⟩ := h'.ahead e he hwanted
    · exact hfront.trans_le hf
    · obtain rfl | hq := List.mem_cons.mp hq
      · exact absurd (h'.seg_of_start laid hp he hwanted hstart.symm) (hfree e he)
      · exact hstart ▸ hrest q hq
  have hperm := insertClaim_perm (p.claim .held) l'
  have hparts : Parts l' _ _ := .of_order h'.order
  have hinserted : Parts (insertClaim (p.claim .held) l') (insertClaim (p.claim .held) (l'.filter (·.isHeld)))
      (l'.filter (fun e => !e.isHeld)) := by
    refine ⟨?_, fun x hx => ?_, hparts.wanted⟩
    · rw [← insertClaim_append fun w hw => hafter w (List.mem_filter.mp hw).1 (hparts.wanted w hw), ← hparts.list]
    · obtain rfl | hx := List.mem_cons.mp ((insertClaim_perm _ _).mem_iff.mp hx)
      · rfl
      · exact hparts.held x hx
  refine Occupying.sublist ?_ (capWanted_sublist _)
  refine ⟨?_, ?_, hinserted.order, insertClaim_sorted h'.sorted, fun e he i ht => ?_, fun e he ht => ?_, fun e he hwanted => ?_⟩
  · rw [heldCount_perm hperm, heldCount_cons]
    exact hroom'
  · rw [(hperm.map _).nodup_iff, List.map_cons, List.nodup_cons]
    refine ⟨fun hmem => ?_, h'.distinct⟩
    obtain ⟨x, hx, hseg⟩ := List.mem_map.mp hmem
    exact hfree x hx hseg
  · obtain rfl | he := List.mem_cons.mp (hperm.mem_iff.mp he)
    · obtain rfl := Tie.route.inj ht
      exact ⟨p, laid.index p hp, rfl, rfl⟩
    · exact h'.tied e he i ht
  · obtain rfl | he := List.mem_cons.mp (hperm.mem_iff.mp he)
    · exact nomatch ht
    · exact h'.detached e he ht
  · obtain rfl | hold := List.mem_cons.mp (hperm.mem_iff.mp he)
    · exact nomatch hwanted
    · obtain hf | ⟨q, hq, hstart⟩ := h'.ahead e hold hwanted
      · exact .inl hf
      · obtain rfl | hq := List.mem_cons.mp hq
        · exact absurd hstart (hafter e hold hwanted).ne
        · exact .inr ⟨q, hq, hstart⟩

/-! ### Making room always finds it (R106) -/

/-- Of two tied entries the later one begins where the other ends or later. -/
theorem Occupying.apart (laid : Laid m spans) (h : Occupying m spans b rest l) (htied : ∀ e ∈ l, e.tie ≠ .detached) :
    l.Pairwise (fun x y => x.spanStart + (m.lengthOf x.seg : Int) ≤ y.spanStart ∧ x.spanStart + 500 ≤ y.spanStart) := by
  have hspan (e : Claim) (he : e ∈ l) : ∃ (i : Nat) (q : Span), spans[i]? = some q ∧ q.seg = e.seg ∧ q.start = e.spanStart := by
    cases ht : e.tie with
    | detached => exact absurd ht (htied e he)
    | route i =>
      obtain ⟨q, hq⟩ := h.tied e he i ht
      exact ⟨i, q, hq⟩
  refine (h.sorted.and (List.pairwise_map.mp h.distinct)).imp_of_mem fun {x y} hx hy ⟨hle, hne⟩ => ?_
  obtain ⟨i, q, hq, hqseg, hqs⟩ := hspan x hx
  obtain ⟨j, r, hr, hrseg, hrs⟩ := hspan y hy
  have hij : i ≠ j := by
    rintro rfl
    obtain rfl := Option.some.inj (hq.symm.trans hr)
    exact hne (hqseg.symm.trans hrseg)
  have hstop := laid.stop q (List.mem_of_getElem? hq)
  have hlong := laid.long q (List.mem_of_getElem? hq)
  have hlongr := laid.long r (List.mem_of_getElem? hr)
  rw [hqseg] at hstop
  have := laid.apart hij hq hr
  omega

/-- The last of entries 500 apart lies as far ahead. -/
theorem spread_last {x : Claim} {l : List Claim} (h : (x :: l).Pairwise (fun x y => x.spanStart + 500 ≤ y.spanStart)) :
    ∃ y ∈ x :: l, x.spanStart + 500 * l.length ≤ y.spanStart := by
  induction l generalizing x with
  | nil => exact ⟨x, List.mem_cons_self, by simp⟩
  | cons z l ih =>
    obtain ⟨hx, hrest⟩ := List.pairwise_cons.mp h
    obtain ⟨y, hy, hfar⟩ := ih hrest
    refine ⟨y, List.mem_cons_of_mem _ hy, ?_⟩
    have hfirst := hx z List.mem_cons_self
    rw [List.length_cons]
    omega

/-- Eight HELD entries, all tied, do not all lie under a body of 1,600. -/
theorem Occupying.under_few (laid : Laid m spans) (h : Occupying m spans b rest l) (hwidth : b.front - b.rear ≤ 1600)
    (hahead : ∀ e ∈ l, ¬ (e.isHeld = true ∧ b.front ≤ e.spanStart))
    (hbehind : ∀ e ∈ l, ¬ (e.isHeld = true ∧ e.spanStart + m.lengthOf e.seg ≤ b.rear)) (htied : ∀ e ∈ l, e.tie ≠ .detached) :
    heldCount l < 8 := by
  have hapart := (h.sublist List.filter_sublist).apart laid (l := l.filter (·.isHeld)) fun e he => htied e (List.mem_filter.mp he).1
  have hunder : ∀ e ∈ l.filter (·.isHeld), e.spanStart < b.front ∧ b.rear < e.spanStart + m.lengthOf e.seg := fun e he => by
    obtain ⟨hmem, hheld⟩ := List.mem_filter.mp he
    have h1 : ¬ b.front ≤ e.spanStart := fun hh => hahead e hmem ⟨hheld, hh⟩
    have h2 : ¬ e.spanStart + m.lengthOf e.seg ≤ b.rear := fun hh => hbehind e hmem ⟨hheld, hh⟩
    omega
  rw [heldCount]
  generalize l.filter (·.isHeld) = held at hapart hunder
  rcases held with _ | ⟨x, _ | ⟨z, far⟩⟩
  · simp
  · simp
  · obtain ⟨hx, hrest⟩ := List.pairwise_cons.mp hapart
    have hfirst := hx z List.mem_cons_self
    have hrear := hunder x List.mem_cons_self
    obtain ⟨y, hy, hfar⟩ := spread_last (hrest.imp And.right)
    have hfront := hunder y (List.mem_cons_of_mem _ hy)
    rw [List.length_cons, List.length_cons]
    omega

theorem Occupying.erase {x : Claim} (h : Occupying m spans b rest l) (hx : x ∈ l) (hheld : x.isHeld = true) :
    Occupying m spans b rest (l.erase x) ∧ heldCount (l.erase x) < 8 := by
  refine ⟨h.sublist List.erase_sublist, ?_⟩
  have hcount := h.held
  rw [heldCount_perm (List.perm_cons_erase hx), heldCount_cons, hheld, if_pos rfl] at hcount
  exact hcount

/-- The farthest HELD entry ahead turned back. -/
theorem Occupying.turnsBack {pre post : List Claim} {x : Claim} (h : Occupying m spans b rest (pre ++ x :: post))
    (hx : x.isHeld = true ∧ b.front ≤ x.spanStart) (hpost : ∀ y ∈ post, ¬ (y.isHeld = true ∧ b.front ≤ y.spanStart)) :
    Occupying m spans b rest (pre ++ x.turnedBack :: post) ∧ heldCount (pre ++ x.turnedBack :: post) < 8 := by
  have hcount := h.held
  rw [heldCount_append, heldCount_cons, hx.1, if_pos rfl] at hcount
  have hcount' : heldCount (pre ++ x.turnedBack :: post) < 8 := by
    rw [heldCount_append, heldCount_cons]
    exact hcount
  have hafter : ∀ y ∈ post, y.isHeld = false := fun y hy => by
    have hsorted := (List.pairwise_append.mp h.sorted).2.1
    have hle := List.rel_of_pairwise_cons hsorted hy
    exact Bool.eq_false_iff.mpr fun hh => hpost y hy ⟨hh, hx.2.trans hle⟩
  have hbefore : ∀ y ∈ pre, y.isHeld = true := fun y hy => by
    by_contra hno
    exact nomatch hx.1.symm.trans ((List.pairwise_append.mp h.order).2.2 y hy x List.mem_cons_self (Bool.eq_false_iff.mpr hno))
  have hparts : Parts (pre ++ x.turnedBack :: post) pre (x.turnedBack :: post) :=
    ⟨rfl, hbefore, List.forall_mem_cons.mpr ⟨rfl, hafter⟩⟩
  have hmem {e : Claim} (he : e ∈ pre ++ x.turnedBack :: post) : e ∈ pre ++ x :: post ∨ e = x.turnedBack := by
    simp only [List.mem_append, List.mem_cons] at he ⊢
    tauto
  have hself : x ∈ pre ++ x :: post := by simp
  have hstarts : (pre ++ x.turnedBack :: post).map (·.spanStart) = (pre ++ x :: post).map (·.spanStart) := by
    simp [Claim.turnedBack]
  refine ⟨⟨hcount'.le, ?_, hparts.order, ?_, fun e he => ?_, fun e he ht => ?_, fun e he hwanted => ?_⟩, hcount'⟩
  · have hsegs : (pre ++ x.turnedBack :: post).map (·.seg) = (pre ++ x :: post).map (·.seg) := by simp [Claim.turnedBack]
    exact hsegs ▸ h.distinct
  · have hsorted := List.pairwise_map (f := Claim.spanStart) (R := (· ≤ ·)) |>.mpr h.sorted
    rw [← hstarts] at hsorted
    exact List.pairwise_map.mp hsorted
  · obtain he | rfl := hmem he
    · exact h.tied e he
    · exact h.tied x hself
  · obtain he | rfl := hmem he
    · exact h.detached e he ht
    · exact absurd hx.2 (not_le.mpr (h.detached x hself ht).2)
  · obtain he | rfl := hmem he
    · exact h.ahead e he hwanted
    · exact .inl hx.2

theorem State.makeRoom_occupying {s : State} (hm : s.map = m) (laid : Laid m spans) (hwidth : b.front - b.rear ≤ 1600)
    (h : Occupying m spans b rest s.claim.list) :
    Occupying m spans b rest (s.makeRoom b).1.claim.list ∧ heldCount (s.makeRoom b).1.claim.list < 8 := by
  by_cases hfull : 8 ≤ heldCount s.claim.list
  swap
  · rw [State.makeRoom_free b (Nat.not_le.mp hfull)]
    exact ⟨h, Nat.not_le.mp hfull⟩
  cases hmap : mapLast (fun e => e.isHeld && b.sees e.spanStart) (fun e => [e.turnedBack]) s.claim.list with
  | some r =>
    obtain ⟨pre, x, post, hl, hx, hpost, -⟩ := mapLast_some hmap
    have hx' : x.isHeld = true ∧ b.front ≤ x.spanStart := by simpa [Body.sees] using hx
    have hpost' : ∀ y ∈ post, ¬ (y.isHeld = true ∧ b.front ≤ y.spanStart) := fun y hy => by simpa [Body.sees] using hpost y hy
    rw [State.makeRoom_turnsBack hfull hl hx' hpost']
    exact Occupying.turnsBack (hl ▸ h) hx' hpost'
  | none =>
    have hahead : ∀ y ∈ s.claim.list, ¬ (y.isHeld = true ∧ b.front ≤ y.spanStart) := fun y hy => by
      simpa [Body.sees] using mapLast_none.mp hmap y hy
    cases hfind : s.claim.list.find? (fun e => e.isHeld && b.passed (s.claimStop e)) with
    | some x =>
      rw [State.makeRoom_behind hfull hahead hfind]
      exact h.erase (List.mem_of_find?_eq_some hfind) (Bool.and_eq_true _ _ ▸ List.find?_some hfind).1
    | none =>
      cases hlast : (s.claim.list.filter (fun e => e.tie == .detached)).getLast? with
      | some x =>
        obtain ⟨hmem, ht⟩ := List.mem_filter.mp (List.mem_of_getLast? hlast)
        rw [State.makeRoom_farthest hfull hahead hfind hlast]
        exact h.erase hmem (h.detached x hmem (beq_iff_eq.mp ht)).1
      | none =>
        have htied : ∀ e ∈ s.claim.list, e.tie ≠ .detached := fun e he => by
          simpa using List.filter_eq_nil_iff.mp (List.getLast?_eq_none_iff.mp hlast) e he
        have hbehind : ∀ e ∈ s.claim.list, ¬ (e.isHeld = true ∧ e.spanStart + m.lengthOf e.seg ≤ b.rear) := fun e he => by
          simpa [Body.passed, State.claimStop, hm] using List.find?_eq_none.mp hfind e he
        exact absurd (h.under_few laid hwidth hahead hbehind htied) (Nat.not_lt.mpr hfull)

/-! ### Occupancy (R105) -/

theorem State.occupyEntry_occupying {s : State} (out : List Claim) (hm : s.map = m) (laid : Laid m spans)
    (hwidth : b.front - b.rear ≤ 1600) (hp : p ∈ spans) (hfront : p.start < b.front) (hrest : ∀ q ∈ rest, p.start < q.start)
    (h : Occupying m spans b (p :: rest) s.claim.list) (hw : wantedCount s.claim.list ≤ 4) :
    Occupying m spans b rest (State.occupyEntry b (s, out) p).1.claim.list ∧
      wantedCount (State.occupyEntry b (s, out) p).1.claim.list ≤ 4 := by
  by_cases hheld : p.seg ∈ heldIds s.claim.list
  · rw [State.occupyEntry_listed hheld]
    exact ⟨h.skip laid hp hheld, hw⟩
  · obtain ⟨hroom, hcount⟩ := State.makeRoom_occupying hm laid hwidth h
    have hlist : (State.occupyEntry b (s, out) p).1.claim.list =
        capWanted (insertClaim (p.claim .held) (takeListed p (s.makeRoom b).1.claim.list)) := by
      rw [State.occupyEntry_enters hheld]
      cases s.peerHolds p.seg <;> rfl
    rw [hlist]
    exact ⟨hroom.enter laid hcount hp hfront hrest, capWanted_wanted _⟩

theorem occupyFold_occupying {under : List Span} {acc : State × List Claim} (hm : acc.1.map = m) (laid : Laid m spans)
    (hwidth : b.front - b.rear ≤ 1600) (hunder : ∀ p ∈ under, p ∈ spans ∧ p.start < b.front)
    (hordered : under.Pairwise (fun p q => p.start < q.start)) (h : Occupying m spans b under acc.1.claim.list)
    (hw : wantedCount acc.1.claim.list ≤ 4) : ClaimLaw (under.foldl (State.occupyEntry b) acc).1.claim.list := by
  induction under generalizing acc with
  | nil => exact h.law hw
  | cons p under ih =>
    obtain ⟨s, out⟩ := acc
    obtain ⟨⟨hp, hfront⟩, hunder⟩ := List.forall_mem_cons.mp hunder
    obtain ⟨hfirst, hordered⟩ := List.pairwise_cons.mp hordered
    obtain ⟨h', hw'⟩ := State.occupyEntry_occupying out hm laid hwidth hp hfront hfirst h hw
    exact ih ((State.occupyEntry_frame b (s, out) p).map.trans hm) hunder hordered h' hw'

end

theorem State.body_width {s : State} {b : Body} (hb : s.body = some b) : b.front - b.rear = 2 * s.halfLength := by
  obtain ⟨c, -, rfl⟩ := Option.map_eq_some_iff.mp hb
  dsimp only
  omega

/-- After step 2 a list that fits the route is one for occupancy. -/
theorem ClaimsFit.occupying {s : State} {b : Body} (fit : ClaimsFit s) (hb : s.body = some b) :
    Occupying s.map s.spans b (s.spans.filter (fun p => b.on p.start p.stop)) s.releaseBehind.1.claim.list := by
  have hsub := s.releaseBehind_sublist.1
  have law := fit.law.of_sublist hsub
  have laid := State.spans_laid fit.lengths
  refine ⟨law.held, law.distinct, law.order, fit.sorted.sublist hsub, fun e he => fit.tied e (hsub.subset he),
    fun e he ht => ?_, fun e he hwanted => ?_⟩
  · obtain ⟨hmem, hstays⟩ := (State.mem_releaseBehind hb e).mp he
    have hheld := fit.detached e hmem ht
    refine ⟨hheld, Int.not_le.mp fun hfront => hstays (.inr ⟨(Claim.isHeld_iff e).mp hheld, .inr ⟨ht, hfront⟩⟩)⟩
  · obtain ⟨hmem, hstays⟩ := (State.mem_releaseBehind hb e).mp he
    have hstop : ¬ e.spanStart + s.map.lengthOf e.seg ≤ b.rear :=
      fun hh => hstays (.inl ⟨(Claim.isHeld_false_iff e).mp hwanted, hh⟩)
    by_cases hfront : b.front ≤ e.spanStart
    · exact .inl hfront
    · cases ht : e.tie with
      | detached => exact nomatch hwanted.symm.trans (fit.detached e hmem ht)
      | route i =>
        obtain ⟨p, hp, hseg, hstart⟩ := fit.tied e hmem i ht
        have hmemp := List.mem_of_getElem? hp
        have hpstop := laid.stop p hmemp
        refine .inr ⟨p, List.mem_filter.mpr ⟨hmemp, ?_⟩, hstart⟩
        simp only [Body.on, Bool.and_eq_true, decide_eq_true_eq]
        rw [hseg] at hpstop
        omega

/-- Steps 2 to 4 keep the law on a list that fits the route. -/
theorem claimSteps_law {r : State × List Claim} (fit : ClaimsFit r.1) : ClaimLaw (claimSteps r).1.claim.list := by
  unfold claimSteps
  split
  · refine State.fill_law (s := r.1.releaseBehind.1.occupy.1) ?_
    have hbody : r.1.releaseBehind.1.body = r.1.body := by
      unfold State.releaseBehind
      split <;> rfl
    have hspans : r.1.releaseBehind.1.spans = r.1.spans := by
      unfold State.releaseBehind
      split <;> rfl
    have law := fit.law.of_sublist r.1.releaseBehind_sublist.1
    cases hb : r.1.body with
    | none =>
      rw [State.occupy, hbody.trans hb]
      exact law
    | some b =>
      have laid := State.spans_laid fit.lengths
      have hwidth : b.front - b.rear ≤ 1600 := by
        have := State.body_width hb
        have := fit.half
        omega
      have hunder : ∀ p ∈ r.1.spans.filter (fun p => b.on p.start p.stop), p ∈ r.1.spans ∧ p.start < b.front := fun p hp => by
        obtain ⟨hmem, hon⟩ := List.mem_filter.mp hp
        simp only [Body.on, Bool.and_eq_true, decide_eq_true_eq] at hon
        exact ⟨hmem, hon.1⟩
      have hordered : (r.1.spans.filter (fun p => b.on p.start p.stop)).Pairwise (fun p q => p.start < q.start) := by
        refine (laid.ordered.sublist List.filter_sublist).imp_of_mem fun {p q} hp _ hle => ?_
        have := laid.long p (hunder p hp).1
        omega
      rw [State.occupy, hbody.trans hb, hspans]
      exact occupyFold_occupying (acc := (r.1.releaseBehind.1, [])) r.1.releaseBehind_frame.map laid hwidth hunder hordered
        (fit.occupying hb) law.wanted
  · exact fit.law

/-! ### The end of an event -/

theorem releases_marks (gs : List Nat) (s : State) : claimMarks (gs.foldl State.routeRelease s).claim.list = claimMarks s.claim.list := by
  induction gs generalizing s with
  | nil => rfl
  | cons g gs ih =>
    refine (ih _).trans ?_
    unfold State.routeRelease
    split
    · rfl
    · split
      · exact s.removeFront_claim.1
      · rfl

theorem State.trim_marks (s : State) : claimMarks s.trim.claim.list = claimMarks s.claim.list := by
  obtain ⟨k, -, htrim⟩ := s.trim_drops
  rw [htrim]
  exact claimMarks_map _ _ fun _ => ⟨rfl, rfl⟩

theorem State.settleWait_marks (s : State) : claimMarks s.settleWait.claim.list = claimMarks s.claim.list :=
  claimMarks_settleWaits _ _

theorem releaseOrder_sorted (l : List Claim) : ∃ out : List Claim, out.Perm l ∧
    out.Pairwise (fun a b => a.spanStart ≤ b.spanStart) ∧ releaseOrder l = out.map (·.seg) := by
  have hfold (l acc : List Claim) (hacc : acc.Pairwise (fun a b => a.spanStart ≤ b.spanStart)) :
      (l.foldl (fun acc e => insertClaim e acc) acc).Perm (l ++ acc) ∧
        (l.foldl (fun acc e => insertClaim e acc) acc).Pairwise (fun a b => a.spanStart ≤ b.spanStart) := by
    induction l generalizing acc with
    | nil => exact ⟨.refl _, hacc⟩
    | cons e l ih =>
      obtain ⟨hperm, hsorted⟩ := ih (insertClaim e acc) (insertClaim_sorted hacc)
      exact ⟨hperm.trans (((insertClaim_perm e acc).append_left l).trans List.perm_middle), hsorted⟩
  obtain ⟨hperm, hsorted⟩ := hfold l [] .nil
  exact ⟨_, by rwa [List.append_nil] at hperm, hsorted, rfl⟩

/-- A whole event keeps the law where its own effect leaves a list that fits the route. -/
theorem claimEvent_law (own : State → State × List Claim) (exam : Bool) (s : State) (fit : ClaimsFit (own s).1) :
    ClaimLaw (claimEvent own exam s).1.claim.list := by
  have law := claimSteps_law fit
  unfold claimEvent
  dsimp only
  generalize claimSteps (own s) = r at law
  have hexam (c : Bool) : ClaimLaw (if c = true then r.1.examine else r.1).claim.list := by
    cases c
    · exact law
    · exact State.examine_law law
  have hend (c : Bool) (u : State) (hu : ClaimLaw u.claim.list) : ClaimLaw (if c = true then u.trim else u).claim.list := by
    cases c
    · exact hu
    · exact hu.of_marks u.trim_marks
  rw [State.reportLists_claim _ |>.1]
  exact hend _ _ ((hexam _).of_marks ((releases_marks _ _).trans (State.settleWait_marks _)))

end Sys2Proof.Machine
end

section
/-! PROOFS. The Claim Unit's events step by step: an accepted notice, a route change, and the order of a whole event
(6.2, 6.6, 6.8; O53). -/

namespace Sys2Proof.Machine

/-! ### An accepted notice (R107, R108) -/

theorem MapStore.conflictHit_any (m : MapStore) (ids : List Nat) (g : Nat) :
    ids.any (fun h => (m.conflictSet g).contains h) = m.conflictHit ids g := by
  rw [Bool.eq_iff_iff, m.conflictHit_iff]
  simp

theorem Claim.isHeld_decide (e : Claim) : decide (e.state = .held) = e.isHeld := by
  rw [Bool.eq_iff_iff, decide_eq_true_eq, Claim.isHeld_iff]

theorem Claim.wantedAgain_eq (x : Claim) :
    (if x.state = .held then { x with state := .wanted, advertised := 0, waitStart := none } else x) = x.wantedAgain := by
  by_cases h : x.state = .held
  · rw [if_pos h, Claim.wantedAgain, if_pos ((Claim.isHeld_iff x).mpr h)]
    rfl
  · rw [if_neg h, Claim.wantedAgain, if_neg (mt (Claim.isHeld_iff x).mp h)]

theorem State.setClaims_decide (s : State) (l : List Claim) :
    s.setClaims l = { s with claim := { s.claim with
      list := l, doubles := s.claim.doubles.filter (fun d => decide (d.2 ∈ heldIds l)) } } := by
  simp only [State.setClaims, List.contains_eq_mem]

/-- What an accepted notice's test leaves beside the claim list and its records. -/
theorem State.Records.cleared_rest {s t : State} {p : Peer} {gs : List Nat} (h : (s.cleared p).Records p.id gs t) :
    { t with claim := s.claim, port := s.port } = s :=
  (congrArg (fun w : State => { w with claim := s.claim }) h.rest :)

theorem ownAccepted_spec {s : State} (p : Peer) (law : ClaimLaw s.claim.list) :
    let inSet (g : Nat) : Bool := p.held.any (fun h => (s.map.conflictSet g).contains h)
    let kept := s.claim.doubles.filter (fun d => decide (d.1 ≠ p.id) || inSet d.2)
    (s.body = none ∨ ¬ (s.ctl.state = .joining ∨ s.ctl.state = .run) →
      (ownAccepted p s).1 = { s with claim := { s.claim with doubles := kept } }) ∧
    ∀ b, s.body = some b → s.ctl.state = .joining ∨ s.ctl.state = .run →
      let givesWay (e : Claim) : Prop := e.state = .held ∧ inSet e.seg = true ∧ b.front ≤ e.spanStart ∧
        (p.prec < s.claim.prec ∨ (p.prec = s.claim.prec ∧ p.id < s.ctl.id))
      let standing (l : List Claim) : List Nat :=
        ((l.filter (fun e => decide (e.state = .held) && inSet e.seg)).map (·.seg)).filter
          (fun g => !kept.contains (p.id, g))
      let recorded (l : List Claim) := kept ++ ((standing l).take (16 - kept.length)).map (fun g => (p.id, g))
      let t := (ownAccepted p s).1
      ((∀ e ∈ s.claim.list, ¬ givesWay e) →
        t.claim = { s.claim with doubles := recorded s.claim.list } ∧
        (∀ e, t.flag e = (s.flag e || decide (e = .doubleHold ∧ standing s.claim.list ≠ [])))) ∧
      (∀ pre e post, s.claim.list = pre ++ e :: post → givesWay e → (∀ x ∈ pre, ¬ givesWay x) →
        let turned := (pre ++ (e :: post).map (fun x =>
          if x.state = .held then { x with state := .wanted, advertised := 0, waitStart := none } else x)).take (pre.length + 4)
        t.claim = { s.claim with
          list := turned, doubles := (recorded pre).filter (fun d => decide (d.2 ∈ heldIds turned)) } ∧
        (∀ e, t.flag e = (s.flag e || decide (e = .doubleHold ∧ standing pre ≠ [])))) ∧
      { t with claim := s.claim, port := s.port } = s ∧ { t.port with flags := s.port.flags } = s.port := by
  intro inSet kept
  have hset (g : Nat) : inSet g = s.map.conflictHit p.held g := s.map.conflictHit_any p.held g
  have hkept : kept = s.standingPairs p := List.filter_congr fun d _ => by
    rw [hset]
    simp [bne, Bool.beq_eq_decide_eq]
  refine ⟨fun hidle => ?_, fun b hb hwork => ?_⟩
  · rw [hkept]
    exact ownAccepted_idle p hidle
  intro givesWay standing recorded t
  have hgives (e : Claim) : givesWay e ↔ s.GivesWay b p e := by
    simp only [givesWay, State.GivesWay, hset, Claim.isHeld_iff, s.outranks_iff]
  have hstanding (l : List Claim) : standing l = newPairs p.id (s.standingPairs p) (standingIn s.map p.held l) := by
    simp only [standing, newPairs, standingIn, hkept, hset, Claim.isHeld_decide]
  have hrecorded (l : List Claim) : recorded l = s.standingPairs p ++
      ((newPairs p.id (s.standingPairs p) (standingIn s.map p.held l)).take (16 - (s.standingPairs p).length)).map
        (fun g => (p.id, g)) := by
    simp only [recorded, hstanding, hkept]
  clear_value recorded standing givesWay kept inSet
  simp only [hgives, hstanding, hrecorded]
  have hturned : (fun x : Claim => if x.state = .held then { x with state := .wanted, advertised := 0, waitStart := none } else x) =
      Claim.wantedAgain := funext Claim.wantedAgain_eq
  rw [hturned]
  refine ⟨fun hstands => ?_, fun pre e post hl he hpre => ?_, ?_⟩
  · have hrec := ownAccepted_stands p hb hwork law.distinct hstands
    exact ⟨hrec.claim, hrec.flag⟩
  · obtain ⟨u, hrec, ht⟩ := ownAccepted_turns p hb hwork law hl he hpre
    rw [State.setClaims_decide] at ht
    refine ⟨?_, fun e => (congrArg (fun w : State => w.flag e) ht).trans (hrec.flag e)⟩
    refine (congrArg State.claim ht).trans ?_
    dsimp only
    rw [hrec.claim]
    rfl
  · obtain hstands | ⟨pre, e, post, hl, he, hpre⟩ := first_split (s.GivesWay b p) s.claim.list
    · have hrec := ownAccepted_stands p hb hwork law.distinct hstands
      exact ⟨hrec.cleared_rest, hrec.port⟩
    · obtain ⟨u, hrec, ht⟩ := ownAccepted_turns p hb hwork law hl he hpre
      have hkeep : { t with claim := s.claim, port := s.port } = { u with claim := s.claim, port := s.port } :=
        (congrArg (fun w : State => { w with claim := s.claim, port := s.port }) ht :)
      have hport : t.port = u.port := (congrArg State.port ht :)
      exact ⟨hkeep.trans hrec.cleared_rest, hport ▸ hrec.port⟩

/-! ### A route change (R110) -/

theorem State.detaches_none {s : State} (hb : s.body = none) (e : Claim) : s.detaches e = false := by
  simp only [State.detaches, hb]

theorem State.detaches_body {s : State} {b : Body} (hb : s.body = some b) (e : Claim) :
    s.detaches e = decide (e.spanStart < b.front ∧ b.rear < e.spanStart + s.map.lengthOf e.seg ∨
      e.spanStart + s.map.lengthOf e.seg ≤ b.rear ∧
      b.rear - (e.spanStart + s.map.lengthOf e.seg) ≤ s.releaseMargin) := by
  have hbody : s.detaches e = (b.on e.spanStart (s.claimStop e) ||
      (b.passed (s.claimStop e) && decide (b.rear - s.claimStop e ≤ s.releaseMargin))) := by rw [State.detaches, hb]
  rw [hbody, Bool.eq_iff_iff, decide_eq_true_eq, Bool.or_eq_true, Bool.and_eq_true, decide_eq_true_eq]
  exact or_congr (by simp [Body.on, State.claimStop]) (and_congr_left' decide_eq_true_iff)

/-! ### The order of a whole event (R99) -/

theorem claimSteps_works {r : State × List Claim} (h : (r.1.ctl.state = .joining ∨ r.1.ctl.state = .run) ∧ r.1.pos.quality ≠ .none) :
    claimSteps r = (r.1.releaseBehind.1.occupy.1.fill, r.2 ++ r.1.releaseBehind.2 ++ r.1.releaseBehind.1.occupy.2) := by
  have hcond : (r.1.working && r.1.placed) = true := by
    rw [Bool.and_eq_true, r.1.working_iff]
    exact ⟨h.1, by simpa [State.placed] using h.2⟩
  exact if_pos hcond

theorem claimSteps_idle {r : State × List Claim} (h : ¬ ((r.1.ctl.state = .joining ∨ r.1.ctl.state = .run) ∧ r.1.pos.quality ≠ .none)) :
    claimSteps r = r := by
  have hcond : ¬ (r.1.working && r.1.placed) = true := by
    rw [Bool.and_eq_true, r.1.working_iff]
    exact fun hh => h ⟨hh.1, by simpa [State.placed] using hh.2⟩
  exact if_neg hcond

/-- The list as the Guidance Unit is shown it. -/
def State.shape (s : State) : List (Nat × ClaimState × Tie × Int) := s.claim.list.map Claim.shape

/-- A whole event by what its steps leave: r after steps 1 to 4, v after step 6. -/
theorem claimEvent_steps {own : State → State × List Claim} {exam : Bool} {s v : State} {r : State × List Claim} {out : List Claim}
    (hr : claimSteps (own s) = r) (hout : releaseOrder r.2 = out.map (·.seg))
    (hv : (if ((exam || decide (r.1.shape ≠ s.shape)) && r.1.working) = true then r.1.examine else r.1).settleWait = v) :
    claimEvent own exam s =
      ((if decide (v.shape ≠ s.shape) = true then ((out.map (·.seg)).foldl State.routeRelease v).trim
        else (out.map (·.seg)).foldl State.routeRelease v).reportLists, decide (v.shape ≠ s.shape)) := by
  subst hr hv
  rw [← hout]
  rfl

theorem claimEvent_order (own : State → State × List Claim) (exam : Bool) (s : State) :
    let works (u : State) : Prop := u.ctl.state = .joining ∨ u.ctl.state = .run
    let shape (u : State) := u.claim.list.map (fun e => (e.seg, e.state, e.tie, e.spanStart))
    let o := own s
    let behind := o.1.releaseBehind
    let under := behind.1.occupy
    let r := if works o.1 ∧ o.1.pos.quality ≠ .none then (under.1.fill, o.2 ++ behind.2 ++ under.2) else o
    let examined := if (exam = true ∨ shape r.1 ≠ shape s) ∧ works r.1 then r.1.examine else r.1
    let waited := examined.settleWait
    ∃ out : List Claim, out.Perm r.2 ∧ out.Pairwise (fun a b => a.spanStart ≤ b.spanStart) ∧
      let handed := (out.map (·.seg)).foldl State.routeRelease waited
      claimEvent own exam s =
        ((if shape waited ≠ shape s then handed.trim else handed).reportLists, decide (shape waited ≠ shape s)) ∧
      State.claimOnly own exam s =
        if shape waited ≠ shape s then (claimEvent own exam s).1.recompute else (claimEvent own exam s).1 := by
  intro works shape o behind under r examined waited
  have hr : claimSteps (own s) = r := by
    by_cases h : works o.1 ∧ o.1.pos.quality ≠ .none
    · exact (claimSteps_works h).trans (if_pos h).symm
    · exact (claimSteps_idle h).trans (if_neg h).symm
  have hcond : ((exam || decide (r.1.shape ≠ s.shape)) && r.1.working) = true ↔
      (exam = true ∨ shape r.1 ≠ shape s) ∧ works r.1 := by
    rw [Bool.and_eq_true, Bool.or_eq_true, decide_eq_true_eq, r.1.working_iff]
    rfl
  have hwaited : (if ((exam || decide (r.1.shape ≠ s.shape)) && r.1.working) = true then r.1.examine else r.1).settleWait = waited :=
    congrArg State.settleWait (if_congr hcond rfl rfl)
  clear_value waited r
  obtain ⟨out, hperm, hsorted, hout⟩ := releaseOrder_sorted r.2
  have hevent := claimEvent_steps hr hout hwaited
  have hshape (u : State) : u.shape = shape u := rfl
  rw [hshape, hshape] at hevent
  clear_value shape
  refine ⟨out, hperm, hsorted, ?_⟩
  rw [State.claimOnly, hevent]
  by_cases h : shape waited = shape s <;> simp [h]

/-- Settles O53: the law through each operation and a whole event, and what the operations and an event do. -/
theorem claimLawKept : Obligations.ClaimLawKept := by
  refine ⟨fun s law => ⟨State.fill_law law, State.examine_law law, law.of_sublist s.releaseBehind_sublist.1,
    fun p => ownAccepted_law p law, ownRouteChange_law law⟩, claimEvent_law, fun s => ⟨State.releaseBehind_none, fun b hb => ?_⟩,
    fun s p law => ownAccepted_spec p law, fun s => ?_, claimEvent_order⟩
  · exact ⟨s.releaseBehind_sublist.1, s.releaseBehind_sublist.2, State.mem_releaseBehind hb, State.mem_releaseBehind_released hb⟩
  · intro matched stays withList
    have hstays (e : Claim) : stays e = s.detaches e := by
      cases hb : s.body with
      | none => simp only [stays, hb, State.detaches_none hb]
      | some b => simp only [stays, hb, State.detaches_body hb]
    have hlist (l : List Claim) : withList l = s.setClaims l := (s.setClaims_decide l).symm
    clear_value stays withList
    simp only [hstays, hlist]
    exact ⟨ownRouteChange_stands, fun pre e post hl hpre htied hno => ownRouteChange_breaks hl hpre htied hno⟩

end Sys2Proof.Machine
end
